-- ==== Sys2Proof/Word.lean ====
section
/-! DEFINITION. The unit of exchange and of all arithmetic (`00_scope.md` R8 to R10), and the byte of the image space
(`20_memory.md` R50). Every operator of R10 is the `BitVec` operator of the same name: sums, differences and products are
modulo 2^32, shifts are logical, comparisons are of the unsigned values. -/

namespace Sys2Proof

/-- A Word: "an unsigned 32-bit integer; the unit of exchange and of all arithmetic" (R8). -/
abbrev Word := BitVec 32

/-- A byte of the image (R50). -/
abbrev Byte := BitVec 8

/-- `zext_32(v)` of R10: a narrower value in the low bits of a Word, the upper bits 0. -/
abbrev zext32 {w : Nat} (v : BitVec w) : Word := v.setWidth 32

end Sys2Proof
end

