-- ==== Sys2Proof/Config.lean ====
section
/-! DEFINITION. What one implementation fixes (the TYPE of the configuration record of `00_scope.md` R6 and R7; its values
stand in `Sys2Proof/Machine/Params.lean`) and the one free value of the model: what the peer answers (R110, log 4). -/

namespace Sys2Proof

/-- The two admissible settings of the division of the length word (R7 `LEN_DIV`, R141). -/
inductive LenDiv where
  /-- Unsigned floor division: the value R7 takes. -/
  | unsigned
  /-- Signed division of the difference: the alternative R141 states and R7 does not take. -/
  | signed
  deriving DecidableEq, Repr

/-- The configuration record: every numeric literal the spec names as a parameter (R6), and the decided parameters of R7.
`POLL_LIMIT` is open and stands in State (log 10); `OFFSET_MODE` is `running`, the only setting
any rule uses (log 16). -/
structure Params where
  /-- `W`, the width of a Word in bits. The type `Word` fixes the same width (`word_width` in `Sys2Proof/Laws/Operands.lean`). -/
  wordBits : Nat
  cmdDiscover : Word
  rspDiscover : Word
  cmdRecognize : Word
  headerUnits : Nat
  headerUnitBytes : Word
  cmdHeaderEnd : Word
  cmdKey : Word
  keyShift : Nat
  keyMask : Word
  m0Add : Word
  hhAdd : Word
  cmdHandshakeBase : Word
  lenBias : Word
  lenDivisor : Word
  lenRound : Word
  maxLen : Word
  finOr : Word
  crcInit : Word
  crcPoly : Word
  crcBits : Nat
  lcgMul : Word
  lcgInc : Word
  cipherBase : Word
  cipherConst : Word
  payloadWordBytes : Word
  cmdCrcPoll : Word
  rspCrcReady : Word
  cmdCrcAck : Word
  /-- `POLL_INTERVAL` in milliseconds. Timing only: no rule of the model reads it (R266, log 23). -/
  pollIntervalMs : Nat
  padByte : Byte
  lenDiv : LenDiv
  deriving DecidableEq, Repr

/-- The answer of the link port to one `Exchange(tx)`: `Ok(rx) | Fail` (`10_state.md` R38). -/
inductive LinkResult where
  | ok (rx : Word)
  | fail
  deriving DecidableEq, Repr, Inhabited

/-- FREE VALUE: the peer's answer to the exchange that is preceded by `n` others, once the script in State is used up. "The
value `rx` is chosen by the peer; the model takes it as a free input of the step (an oracle draw) under no law" (R110). -/
opaque Config.peerAnswer : Nat → LinkResult

end Sys2Proof
end

