-- ==== Sys2Proof/Machine/Params.lean ====
section
/-! DEFINITION. The values of the configuration record: the table of `00_scope.md` R6 and the decided rows of R7. The literals
are the spec's and unaudited (log 15). -/

namespace Sys2Proof.Machine

/-- The parameter table of R6, in its order, and `PAD_BYTE` and `LEN_DIV` of R7. -/
def params : Params where
  wordBits := 32
  cmdDiscover := 0x00006202
  rspDiscover := 0x72026202
  cmdRecognize := 0x00006102
  headerUnits := 0x5F
  headerUnitBytes := 2
  cmdHeaderEnd := 0x00006200
  cmdKey := 0x000063D1
  keyShift := 16
  keyMask := 0xFF
  m0Add := 0xFFFFFFD1
  hhAdd := 0xF
  cmdHandshakeBase := 0x00006400
  lenBias := 0x190
  lenDivisor := 4
  lenRound := 16
  maxLen := 0x40000
  finOr := 0xFFFF0000
  crcInit := 0x0000C387
  crcPoly := 0x0000C37B
  crcBits := 32
  lcgMul := 0x6F646573
  lcgInc := 1
  cipherBase := 0x02000000
  cipherConst := 0x43202F2F
  payloadWordBytes := 4
  cmdCrcPoll := 0x00000065
  rspCrcReady := 0x00750065
  cmdCrcAck := 0x00000066
  pollIntervalMs := 10
  padByte := 0x00
  lenDiv := .unsigned

end Sys2Proof.Machine
end

