-- ==== Sys2Proof/Syntax.lean ====
section
/-! DEFINITION. The operations, the datapath functions and the exchanger primitives (`30_encoding.md` R100, R101: every row
of the opcode table is one constructor of `Instr`), the phases of the control state (`10_state.md` R29), the error kinds
(R33), and the formats of link words and responses (`30_encoding.md` R76, R77). -/

namespace Sys2Proof

/-- Every row of the operation map R100 and of the function table R101, in the table's order. Only host commands and functions
have operands of their own; what an operation sends is assembled from the registers and the image (R79 to R84). -/
inductive Instr where
  /-- `START(img_len)`, host command (R125). -/
  | start (imgLen : Word)
  /-- `POLL_DISCOVER` (R128). -/
  | pollDiscover
  /-- `RECOG_A` (R130). -/
  | recogA
  /-- `RECOG_B` (R131). -/
  | recogB
  /-- `HDR_UNIT` (R200). -/
  | hdrUnit
  /-- `HDR_END` (R134). -/
  | hdrEnd
  /-- `INFO_AGAIN` (R135). -/
  | infoAgain
  /-- `KEY_A` (R137). -/
  | keyA
  /-- `KEY_B` (R138). -/
  | keyB
  /-- `HANDSHAKE` (R139). -/
  | handshake
  /-- `LENGTH` (R141, R143). -/
  | length
  /-- `PAYLOAD_WORD` (R204). -/
  | payloadWord
  /-- `FIN_FOLD`, no exchange (R208). -/
  | finFold
  /-- `POLL_CRC` (R210). -/
  | pollCrc
  /-- `CRC_ACK` (R211). -/
  | crcAck
  /-- `CRC_SEND` (R212). -/
  | crcSend
  /-- `ABORT`, host command (R228). -/
  | abort
  /-- `RESET`, host command (R250). -/
  | reset
  /-- `EXCHANGE(tx)`, exchanger primitive (R110). -/
  | exchange (tx : Word)
  /-- `WAIT_UNTIL(w, e)`, exchanger pseudo-operation (R112). -/
  | waitUntil (writeWord expectedWord : Word)
  /-- `CRC_FOLD(acc, w)` (R160). -/
  | crcFold (acc w : Word)
  /-- `LCG_SEED(kb)` (R176). -/
  | lcgSeed (kb : Byte)
  /-- `LCG_NEXT(s)` (R177). -/
  | lcgNext (state : Word)
  /-- `NEGATE(v)` (R185). -/
  | negate (v : Word)
  /-- `CIPHER_MASK(off, k)` (R187). -/
  | cipherMask (off k : Word)
  /-- `CIPHER_XOR(w, off, k)` (R188). -/
  | cipherXor (w off k : Word)
  deriving DecidableEq, Repr

/-- The twelve phases (R29). -/
inductive Phase where
  | idle
  | discovery
  | recognize
  | header
  | headerDone
  | keyExchange
  | handshake
  | length
  | payload
  | finalize
  | done
  | failed
  deriving DecidableEq, Repr

/-- The error kinds of the `err` register (R33). -/
inductive ErrKind where
  | noError
  | invalidImage
  | peerUnresponsive
  | transportFailure
  | aborted
  deriving DecidableEq, Repr

/-- The formats of sent words (R76). -/
inductive LinkFormat where
  /-- K: all 32 bits fixed by the operation. -/
  | constant (word : Word)
  /-- H: `unit` in bits 15..0. -/
  | headerUnit
  /-- S: `hb` in bits 7..0. -/
  | handshake
  /-- N: all 32 bits are `n`. -/
  | lengthWord
  /-- P: all 32 bits are `enc`. -/
  | payload
  /-- X: the checksum in bits 15..0. -/
  | checksum
  deriving DecidableEq, Repr

/-- The formats in which a response is read (R77). -/
inductive ResponseFormat where
  /-- RC: all 32 bits compared with one constant. -/
  | compared (expected : Word)
  /-- RB: only bits 23..16 are used. -/
  | byteCarrier
  /-- RI: no bit is used. -/
  | ignored
  deriving DecidableEq, Repr

/-- One sent link word, taken apart: the operation that sends it and the value of its variable field (R79 to R84), 0 where its
format has none. -/
structure Frame where
  instr : Instr
  field : Word
  deriving DecidableEq, Repr

end Sys2Proof
end

