-- ==== Sys2Proof/WellFormed.lean ====
section
/-! DEFINITION. Which frames are well formed: the operation is one that sends a word, and the field fits the variable bits of
its format (`30_encoding.md` R76, R100). Every term of `Instr` is well formed: an oversize START is a legal command that fails
the session (R106, R126). -/

namespace Sys2Proof

/-- How many low bits of the link word are the variable field of the operation's format (R76); none where the operation sends
no word of its own (R100 "nothing", R101). -/
def fieldBits : Instr → Option Nat
  | .start _ => none
  | .pollDiscover => some 0
  | .recogA => some 0
  | .recogB => some 0
  | .hdrUnit => some 16
  | .hdrEnd => some 0
  | .infoAgain => some 0
  | .keyA => some 0
  | .keyB => some 0
  | .handshake => some 8
  | .length => some 32
  | .payloadWord => some 32
  | .finFold => none
  | .pollCrc => some 0
  | .crcAck => some 0
  | .crcSend => some 16
  | .abort => none
  | .reset => none
  | .exchange _ => none
  | .waitUntil _ _ => none
  | .crcFold _ _ => none
  | .lcgSeed _ => none
  | .lcgNext _ => none
  | .negate _ => none
  | .cipherMask _ _ => none
  | .cipherXor _ _ _ => none

/-- Check 1: the operation of the frame sends a link word. -/
def Frame.sends (f : Frame) : Bool := (fieldBits f.instr).isSome

/-- Check 2: the field fits the variable bits of the operation's format. -/
def Frame.fits (f : Frame) : Bool := decide (f.field.toNat < 2 ^ (fieldBits f.instr).getD 0)

/-- A well-formed frame passes both checks. -/
def Frame.wf (f : Frame) : Bool := f.sends && f.fits

end Sys2Proof
end

