-- ==== Sys2Proof/Decode.lean ====
section
/-! DEFINITION. From control state and link word to operation, and back (`30_encoding.md`). "A decoder from link traffic to
operations cannot work from the word alone" (R102): which operation a word belongs to is decided by the control state in which
it is sent, so `decode` takes `(phase, idx)` and the bytes in wire order. The encoder follows. The codes of the status
registers (`10_state.md` R29, R33) stand here too. -/

namespace Sys2Proof

/-! ### Codes of the control state and of `err` -/

/-- The 4-bit code of a phase (R29). -/
def Phase.code : Phase → BitVec 4
  | .idle => 0
  | .discovery => 1
  | .recognize => 2
  | .header => 3
  | .headerDone => 4
  | .keyExchange => 5
  | .handshake => 6
  | .length => 7
  | .payload => 8
  | .finalize => 9
  | .done => 10
  | .failed => 11

/-- The phase of a code; codes 12 to 15 "are never written" and are refused (R29, R105). -/
def Phase.ofCode (c : BitVec 4) : Option Phase :=
  match c.toNat with
  | 0 => some .idle
  | 1 => some .discovery
  | 2 => some .recognize
  | 3 => some .header
  | 4 => some .headerDone
  | 5 => some .keyExchange
  | 6 => some .handshake
  | 7 => some .length
  | 8 => some .payload
  | 9 => some .finalize
  | 10 => some .done
  | 11 => some .failed
  | _ => none

/-- The 3-bit code of an error kind (R33). -/
def ErrKind.code : ErrKind → BitVec 3
  | .noError => 0
  | .invalidImage => 1
  | .peerUnresponsive => 2
  | .transportFailure => 3
  | .aborted => 4

/-- The error kind of a code; codes 5 to 7 "are never written" and are refused (R33, R105). -/
def ErrKind.ofCode (c : BitVec 3) : Option ErrKind :=
  match c.toNat with
  | 0 => some .noError
  | 1 => some .invalidImage
  | 2 => some .peerUnresponsive
  | 3 => some .transportFailure
  | 4 => some .aborted
  | _ => none

/-! ### The operation of a control state -/

/-- The operation performed in control state `(p, i)`: the table of R30. None in IDLE, DONE and FAILED, and none at an `idx`
the table does not have. -/
def opAt (p : Phase) (i : BitVec 7) : Option Instr :=
  match p with
  | .idle => none
  | .discovery => if i = 0 then some .pollDiscover else none
  | .recognize => if i = 0 then some .recogA else if i = 1 then some .recogB else none
  | .header => if i.toNat < Machine.params.headerUnits then some .hdrUnit else none
  | .headerDone => if i = 0 then some .hdrEnd else if i = 1 then some .infoAgain else none
  | .keyExchange => if i = 0 then some .keyA else if i = 1 then some .keyB else none
  | .handshake => if i = 0 then some .handshake else none
  | .length => if i = 0 then some .length else none
  | .payload => if i = 0 then some .payloadWord else none
  | .finalize =>
    if i = 0 then some .finFold else if i = 1 then some .pollCrc
    else if i = 2 then some .crcAck else if i = 3 then some .crcSend else none
  | .done => none
  | .failed => none

/-- IDLE, DONE and FAILED: the phases in which no session runs (R31, R32). -/
def Phase.resting : Phase → Bool
  | .idle | .done | .failed => true
  | .discovery | .recognize | .header | .headerDone | .keyExchange | .handshake | .length | .payload | .finalize => false

/-- The control states of R30: an operation is performed there, or no session runs and `idx` is 0. Any other is unreachable,
"a step from such a state is refused" (R105). -/
def controlLegal (p : Phase) (i : BitVec 7) : Bool :=
  if p.resting then decide (i = 0) else (opAt p i).isSome

/-- The control state of an operation (R100, column "Control state"); of `HDR_UNIT` the first of its 95. -/
def pointOf : Instr → Option (Phase × BitVec 7)
  | .start _ => none
  | .pollDiscover => some (.discovery, 0)
  | .recogA => some (.recognize, 0)
  | .recogB => some (.recognize, 1)
  | .hdrUnit => some (.header, 0)
  | .hdrEnd => some (.headerDone, 0)
  | .infoAgain => some (.headerDone, 1)
  | .keyA => some (.keyExchange, 0)
  | .keyB => some (.keyExchange, 1)
  | .handshake => some (.handshake, 0)
  | .length => some (.length, 0)
  | .payloadWord => some (.payload, 0)
  | .finFold => some (.finalize, 0)
  | .pollCrc => some (.finalize, 1)
  | .crcAck => some (.finalize, 2)
  | .crcSend => some (.finalize, 3)
  | .abort => none
  | .reset => none
  | .exchange _ => none
  | .waitUntil _ _ => none
  | .crcFold _ _ => none
  | .lcgSeed _ => none
  | .lcgNext _ => none
  | .negate _ => none
  | .cipherMask _ _ => none
  | .cipherXor _ _ _ => none

/-! ### Formats -/

/-- The format and the constant of the word an operation sends (R100, column "Sends (format)"). -/
def linkFormat : Instr → Option LinkFormat
  | .start _ => none
  | .pollDiscover => some (.constant Machine.params.cmdDiscover)
  | .recogA => some (.constant Machine.params.cmdDiscover)
  | .recogB => some (.constant Machine.params.cmdRecognize)
  | .hdrUnit => some .headerUnit
  | .hdrEnd => some (.constant Machine.params.cmdHeaderEnd)
  | .infoAgain => some (.constant Machine.params.cmdDiscover)
  | .keyA => some (.constant Machine.params.cmdKey)
  | .keyB => some (.constant Machine.params.cmdKey)
  | .handshake => some .handshake
  | .length => some .lengthWord
  | .payloadWord => some .payload
  | .finFold => none
  | .pollCrc => some (.constant Machine.params.cmdCrcPoll)
  | .crcAck => some (.constant Machine.params.cmdCrcAck)
  | .crcSend => some .checksum
  | .abort => none
  | .reset => none
  | .exchange _ => none
  | .waitUntil _ _ => none
  | .crcFold _ _ => none
  | .lcgSeed _ => none
  | .lcgNext _ => none
  | .negate _ => none
  | .cipherMask _ _ => none
  | .cipherXor _ _ _ => none

/-- The format in which an operation reads its response (R100, column "Response"). -/
def responseFormat : Instr → Option ResponseFormat
  | .start _ => none
  | .pollDiscover => some (.compared Machine.params.rspDiscover)
  | .recogA => some .ignored
  | .recogB => some .ignored
  | .hdrUnit => some .ignored
  | .hdrEnd => some .ignored
  | .infoAgain => some .ignored
  | .keyA => some .ignored
  | .keyB => some .byteCarrier
  | .handshake => some .ignored
  | .length => some .byteCarrier
  | .payloadWord => some .ignored
  | .finFold => none
  | .pollCrc => some (.compared Machine.params.rspCrcReady)
  | .crcAck => some .ignored
  | .crcSend => some .ignored
  | .abort => none
  | .reset => none
  | .exchange _ => none
  | .waitUntil _ expected => some (.compared expected)
  | .crcFold _ _ => none
  | .lcgSeed _ => none
  | .lcgNext _ => none
  | .negate _ => none
  | .cipherMask _ _ => none
  | .cipherXor _ _ _ => none

/-- The bits of a sent word that its format fixes: the `match` of the opcode table (R76, R102). -/
def formatMatch : LinkFormat → Word
  | .constant c => c
  | .headerUnit => 0x00000000
  | .handshake => Machine.params.cmdHandshakeBase
  | .lengthWord => 0x00000000
  | .payload => 0x00000000
  | .checksum => 0x00000000

/-- Which bits of a sent word its format fixes: the `mask` of the opcode table (R76, R102). -/
def formatMask : LinkFormat → Word
  | .constant _ => 0xFFFFFFFF
  | .headerUnit => 0xFFFF0000
  | .handshake => ~~~Machine.params.keyMask
  | .lengthWord => 0x00000000
  | .payload => 0x00000000
  | .checksum => 0xFFFF0000

/-! ### Wire order -/

/-- The bytes of a link word in the order the transport sends them: "big-endian (most significant byte transmitted first)"
(`20_memory.md` R59). -/
def wireBytes (w : Word) : List Byte :=
  [w.extractLsb' 24 8, w.extractLsb' 16 8, w.extractLsb' 8 8, w.extractLsb' 0 8]

/-- Take one link word off a list of bytes in wire order; none if fewer than four are left. -/
def takeWord : List Byte → Option (Word × List Byte)
  | b3 :: b2 :: b1 :: b0 :: rest => some (b3 ++ b2 ++ b1 ++ b0, rest)
  | [] | [_] | [_, _] | [_, _, _] => none

/-! ### Decode and encode -/

/-- Why bytes are not a link word of the given control state. -/
inductive DecodeError where
  /-- No operation is performed in this control state (R30, R31). -/
  | noOperation
  /-- The operation of this control state sends no word (`FIN_FOLD`, R208). -/
  | noLinkWord
  /-- Fewer than four bytes are left; every link word is exactly 32 bits (R75). -/
  | shortWord
  /-- The word differs from the format's fixed bits; the block never sends it here (R103). -/
  | wrongFixedBits
  deriving DecidableEq, Repr

/-- The frame of one sent word of operation `i` in format `fmt`. -/
def decodeWord (i : Instr) (fmt : LinkFormat) (w : Word) : Except DecodeError Frame :=
  if w &&& formatMask fmt = formatMatch fmt then .ok ⟨i, w &&& ~~~formatMask fmt⟩ else .error .wrongFixedBits

/-- The first link word of `bytes`, sent in control state `(p, i)`, and the bytes after it. Total; what the block does not send
there is refused by name. -/
def decode (p : Phase) (i : BitVec 7) (bytes : List Byte) : Except DecodeError (Frame × List Byte) :=
  match opAt p i with
  | none => .error .noOperation
  | some op =>
    match linkFormat op with
    | none => .error .noLinkWord
    | some fmt =>
      match takeWord bytes with
      | none => .error .shortWord
      | some (w, rest) =>
        match decodeWord op fmt w with
        | .ok f => .ok (f, rest)
        | .error e => .error e

/-- The link word of a frame: the format's fixed bits and the field. -/
def encodeWord (fmt : LinkFormat) (field : Word) : Word := formatMatch fmt ||| field

/-- The bytes of a frame in wire order; none for an operation that sends no word. -/
def encode (f : Frame) : List Byte :=
  match linkFormat f.instr with
  | none => []
  | some fmt => wireBytes (encodeWord fmt f.field)

/-! ### Words of the opcode table without a control state -/

/-- The sending operations, the ones with more fixed bits first and in the order of a session among equals. It settles the
words that several control states share when the control state is not given (log 17). -/
def sendingOps : List Instr :=
  [.pollDiscover, .recogA, .recogB, .hdrEnd, .infoAgain, .keyA, .keyB, .pollCrc, .crcAck, .handshake, .hdrUnit, .crcSend,
    .length, .payloadWord]

/-- Does the decoder accept these bytes in the operation's own control state? -/
def acceptsAt (bytes : List Byte) (i : Instr) : Bool :=
  match pointOf i with
  | none => false
  | some (p, n) =>
    match decode p n bytes with
    | .ok _ => true
    | .error _ => false

/-- The operation the decoder reads from a table word whose control state is not given: the first of `sendingOps` in whose
control state the word decodes. A word shorter than 32 bits has zeros above; a longer one is no link word (R75). -/
def decodeTableWord (nbits w : Nat) : Option Instr :=
  if nbits ≤ Machine.params.wordBits ∧ w < 2 ^ nbits then sendingOps.find? (acceptsAt (wireBytes (BitVec.ofNat 32 w))) else none

end Sys2Proof
end

