-- ==== Sys2Proof/Machine/State.lean ====
section
/-! DEFINITION. Everything the spec gives the machine to hold (`10_state.md`), as plain data; the reasons a step can stop; the
machine right after reset (R44). `INVENTORY.md` lists the fields one by one. -/

namespace Sys2Proof.Machine

/-- A register that may be "unwritten" (R43): its storage bits, and whether it holds a value. Entry to FAILED and to DONE leaves
the bits and takes the value away (R230, R147, U12 of `93_implementation_defined.md`): "they keep whatever bits they had" and are
"treated as unwritten". That START and RESET, which only unwrite (R125, R250), leave the bits too is the model's choice (log 2). -/
structure Reg (α : Type) where
  bits : α
  written : Bool
  deriving DecidableEq, Repr

/-- The registers that can be unwritten, by name, for the fault of R43. -/
inductive RegName where
  | keystreamState
  | checksum
  | checksumFinalizer
  | payloadOffset
  | hh
  | imgLen
  | pollCount
  deriving DecidableEq, Repr

/-- What the host asserts at one operation boundary (R36): any of the three commands. START carries the length only (R36), so
every session of a run is about the one image in State: that the host presents no other image between two sessions is the model's
choice (log 27). -/
structure HostSlot where
  reset : Bool
  abort : Bool
  start : Option Word
  deriving DecidableEq, Repr

/-- One record of the trace port (R39): a completed exchange, or a change of phase. -/
inductive TraceEvent where
  | exchange (phase : Phase) (idx : BitVec 7) (tx rx : Word)
  | phaseChange (before after : Phase)
  deriving DecidableEq, Repr

/-- The image as the image port shows it: sparse cells `(address, byte)` in canonical form (`Machine/Memory.lean`). -/
abbrev Image := List Host.Cell

/-- The whole machine. -/
structure State where
  /-- Control state (R28, R29). -/
  phase : Phase
  /-- Position inside the phase (R28, R30). -/
  idx : BitVec 7
  /-- Every Word handed to the link port, oldest first, the failed ones included (R38, log 13). -/
  sent : List Word
  /-- The peer script: the answers to the next exchanges, the next first (R108, log 4). -/
  peer : List LinkResult
  /-- The trace port's output, oldest first (R39, R244). -/
  trace : List TraceEvent
  /-- Error kind of the last failure (R33). -/
  err : ErrKind
  /-- `fail_phase` (R34). -/
  failPhase : Reg Phase
  /-- `fail_idx` (R34). -/
  failIdx : Reg (BitVec 7)
  /-- `keystream_state` (R21). -/
  keystreamState : Reg Word
  /-- `checksum` (R22). -/
  checksum : Reg Word
  /-- `checksum_finalizer` (R23). -/
  checksumFinalizer : Reg Word
  /-- `payload_offset` (R24). -/
  payloadOffset : Reg Word
  /-- `hh` (R25). -/
  hh : Reg Word
  /-- `img_len` (R26). -/
  imgLen : Reg Word
  /-- `poll_count` (R42 item 1); no rule touches it while `pollLimit` is `none`. -/
  pollCount : Reg Nat
  /-- `POLL_LIMIT` (R7), an argument of the model; no instruction writes it (log 10). -/
  pollLimit : Option Nat
  /-- The image, a parameter of the session (R54); no instruction and no host command replaces it (logs 24, 27). -/
  image : Image
  /-- The host's commands at the next operation boundaries, the next first (R36, log 5). -/
  host : List HostSlot
  /-- The model's own field: what the last function row run alone gave (log 1). -/
  result : Option Word
  deriving DecidableEq, Repr

/-- Why the machine stops with a fault. -/
inductive Fault where
  /-- A register that holds no value was read: "reading it is a model fault" (R43, R246, and D21 of
  `92_eei_decisions.md`). Raised by `Reg.get` in
  `Machine/Ops.lean`. Safe: the model stops where hardware would go on with unknown bits, and no reachable step raises it. -/
  | unwrittenRead (register : RegName)
  deriving DecidableEq, Repr

/-- Why a step or an instruction is refused. -/
inductive Refusal where
  /-- The instruction has no meaning yet. Raised only by arms of `exec`. Safe. -/
  | notModelled (mnemonic : String)
  /-- The control state is none of R30's: "a step from such a state is refused" (R105, R246). Raised by `step`. Safe, and
  unreachable. -/
  | illegalControl
  /-- The operation or exchanger primitive was run outside the control states that perform it (R100, column "Control state").
  Raised by `performedAt`, `performedWhen` in `Machine/Ops.lean`. Safe: the hardware never does this. -/
  | notPerformedHere
  deriving DecidableEq, Repr

/-- A register nothing has written, with the storage the model gives it after power-on (log 3). -/
def Reg.fresh {α : Type} (storage : α) : Reg α := ⟨storage, false⟩

/-- The machine right after RESET (R44): IDLE, `idx` 0, `err` None, every other register unwritten; nothing presented on the
image port, nothing scripted for peer and host, nothing sent. `POLL_LIMIT` is the value R7 takes. -/
def State.reset : State where
  phase := .idle
  idx := 0
  err := .noError
  failPhase := .fresh .idle
  failIdx := .fresh 0
  keystreamState := .fresh 0
  checksum := .fresh 0
  checksumFinalizer := .fresh 0
  payloadOffset := .fresh 0
  hh := .fresh 0
  imgLen := .fresh 0
  pollCount := .fresh 0
  pollLimit := none
  image := []
  peer := []
  host := []
  trace := []
  sent := []
  result := none

end Sys2Proof.Machine
end

