-- ==== Sys2Proof/Machine/Flags.lean ====
section
/-! DEFINITION. "The block has no arithmetic condition codes" (`10_state.md` R32): its flags are the status predicates, functions
of `phase`, and its status port (R40). -/

namespace Sys2Proof.Machine

/-- `idle` of R32. -/
def State.idle (s : State) : Bool := decide (s.phase = .idle)

/-- `busy` of R32: DISCOVERY to FINALIZE. -/
def State.busy (s : State) : Bool := !s.phase.resting

/-- `done` of R32. -/
def State.done (s : State) : Bool := decide (s.phase = .done)

/-- `failed` of R32. -/
def State.failed (s : State) : Bool := decide (s.phase = .failed)

/-- What the host reads at the status port, in the codes of R29 and R33 (R35, R40). -/
structure Status where
  phase : BitVec 4
  idx : BitVec 7
  err : BitVec 3
  failPhase : BitVec 4
  failIdx : BitVec 7
  deriving DecidableEq, Repr

/-- The status port (R40). `fail_phase` and `fail_idx` are meaningful only while `failed` (R34). -/
def State.status (s : State) : Status where
  phase := s.phase.code
  idx := s.idx
  err := s.err.code
  failPhase := s.failPhase.bits.code
  failIdx := s.failIdx.bits

/-- The event history of R244: the exchange records of the trace, in order. -/
def State.history (s : State) : List (Phase × BitVec 7 × Word × Word) :=
  s.trace.filterMap fun e =>
    match e with
    | .exchange p i tx rx => some (p, i, tx, rx)
    | .phaseChange _ _ => none

end Sys2Proof.Machine
end

