-- ==== Sys2Proof/Machine/Datapath.lean ====
section
/-! DEFINITION. The datapath functions of `30_encoding.md` R101, pure: the checksum fold (`42_crc_checksum_accumulator.md`), the
keystream generator (`43_lcg_keystream_generator.md`) and the cipher (`44_word_xor_cipher.md`). -/

namespace Sys2Proof.Machine

/-- The tested bit of one checksum iteration: "the lowest bit of `checksum XOR current_word`" (R32, R160). -/
def crcTest (c d : Word) : Bool := (c ^^^ d).getLsbD 0

/-- `CRC_STEP(c, d)` of R162: one iteration; the feedback constant is XOR-ed after the logical shift. -/
def crcStep (cd : Word × Word) : Word × Word :=
  (if crcTest cd.1 cd.2 then (cd.1 >>> 1) ^^^ params.crcPoly else cd.1 >>> 1, cd.2 >>> 1)

/-- `n` iterations of the checksum loop. -/
def crcIterate : Nat → Word × Word → Word × Word
  | 0, cd => cd
  | n + 1, cd => crcIterate n (crcStep cd)

/-- `CRC_FOLD(acc, w)` of R160, on a copy of the word (R161). -/
def crcFold (acc w : Word) : Word := (crcIterate params.crcBits (acc, w)).1

/-- `LCG_SEED(kb)` of R176. -/
def lcgSeed (kb : Byte) : Word := params.m0Add + zext32 kb

/-- `LCG_NEXT(s)` of R177. -/
def lcgNext (s : Word) : Word := params.lcgMul * s + params.lcgInc

/-- `NEGATE(v)` of R185. -/
def negate (v : Word) : Word := ~~~v + 1

/-- `CIPHER_MASK(off, k)` of R187. -/
def cipherMask (off k : Word) : Word := negate (params.cipherBase + off) ^^^ k ^^^ params.cipherConst

/-- `CIPHER_XOR(w, off, k)` of R188. -/
def cipherXor (w off k : Word) : Word := w ^^^ cipherMask off k

end Sys2Proof.Machine
end

