-- ==== Sys2Proof/Machine/Memory.lean ====
section
/-! DEFINITION. The image space (`20_memory.md`): the canonical form of the sparse image, the byte the image port answers
with, the pad rule, and the two assembled reads. The block writes no memory (R51); `Image.write` is how a host outside the
block lays an image out. -/

namespace Sys2Proof.Machine

/-- What an address the image does not list holds (log 9). -/
def unlistedByte : Byte := 0

/-- The byte the image port answers with at address `a` (R37). -/
def Image.read (m : Image) (a : Nat) : Byte :=
  match m with
  | [] => unlistedByte
  | (b, v) :: rest => if a = b then v else Image.read rest a

/-- Every listed address lies above `low`, addresses rise strictly, and no cell holds the unlisted byte. -/
def Image.wfAbove (low : Nat) : Image → Bool
  | [] => true
  | (a, v) :: rest => decide (low ≤ a) && decide (v ≠ unlistedByte) && Image.wfAbove (a + 1) rest

/-- Canonical form: equal images are equal lists. -/
def Image.wf (m : Image) : Bool := Image.wfAbove 0 m

/-- Put byte `v` at address `a`, keeping canonical form: the unlisted byte removes the cell. -/
def Image.write (m : Image) (a : Nat) (v : Byte) : Image :=
  match m with
  | [] => if v = unlistedByte then [] else [(a, v)]
  | (b, u) :: rest =>
    if a < b then (if v = unlistedByte then (b, u) :: rest else (a, v) :: (b, u) :: rest)
    else if a = b then (if v = unlistedByte then rest else (a, v) :: rest)
    else (b, u) :: Image.write rest a v

/-- Lay bytes out from address `a` up, as a host presents an image (`70_reset_and_hazards.md` R256). -/
def Image.load (m : Image) (a : Nat) : List Byte → Image
  | [] => m
  | v :: rest => Image.load (m.write a v) (a + 1) rest

/-- `ImgRead(a)` of R52: the image's byte below `img_len`, `PAD_BYTE` at and above it, without a request on the port. -/
def imgRead (m : Image) (len a : Word) : Byte :=
  if a < len then m.read a.toNat else params.padByte

/-- `Img16(a)` of R58: two bytes, the lower address in the low byte, zero above. -/
def img16 (m : Image) (len a : Word) : Word :=
  zext32 (imgRead m len a) ||| zext32 (imgRead m len (a + 1)) <<< 8

/-- `Img32(a)` of R57: "bytes packed low-to-high: byte0 | byte1<<8 | byte2<<16 | byte3<<24". -/
def img32 (m : Image) (len a : Word) : Word :=
  zext32 (imgRead m len a) ||| zext32 (imgRead m len (a + 1)) <<< 8 ||| zext32 (imgRead m len (a + 2)) <<< 16
    ||| zext32 (imgRead m len (a + 3)) <<< 24

end Sys2Proof.Machine
end

