-- ==== Sys2Proof/Machine/Operands.lean ====
section
/-! DEFINITION. Operand assembly (`30_encoding.md` R79 to R84): how each variable field of a sent word is made, and what is
read out of a response. `unit` (R79) is `img16` and `enc` (R84) is `cipherXor`. -/

namespace Sys2Proof.Machine

/-- Bits 23..16 of a response in format RB (R77): `kb` of R80 and `cb` of R83. -/
def carriedByte (rx : Word) : Byte := ((rx >>> params.keyShift) &&& params.keyMask).setWidth 8

/-- `hh` from the key byte, unmasked (R25, R138). -/
def hhOf (kb : Byte) : Word := params.hhAdd + zext32 kb

/-- The handshake word of R139: `hb` of R81 under the constant of format S. -/
def handshakeWord (hh : Word) : Word := (hh &&& params.keyMask) ||| params.cmdHandshakeBase

/-- `L`: the image length "rounded up to the nearest multiple of 16" (R26, R127). -/
def roundedLength (len : Word) : Word := (len + (params.lenRound - 1)) &&& ~~~(params.lenRound - 1)

/-- `n` of R141 under a setting of `LEN_DIV`, for the rounded length `l`: the wrapped difference divided by 4. -/
def lengthWordWith (d : LenDiv) (l : Word) : Word :=
  match d with
  | .unsigned => (l - params.lenBias) / params.lenDivisor
  | .signed => (l - params.lenBias).sdiv params.lenDivisor

/-- `n` of R82 and R141 as this hardware takes it. -/
def lengthWord (l : Word) : Word := lengthWordWith params.lenDiv l

/-- `f0` of R143: the finalizer seed. -/
def finalizerSeed (cb : Byte) (hh : Word) : Word := (zext32 cb + hh) ||| params.finOr

end Sys2Proof.Machine
end

