-- ==== Sys2Proof/Machine/Ops.lean ====
section
/-! DEFINITION. The operations every meaning is made of: reading a register that may be unwritten (`10_state.md` R43), writing
the control state (R28) with its trace record (R39), entering FAILED (`60_exceptions.md` R230), beginning a session
(`41_handshake_fsm.md` R125), the exchange (`40_word_exchanger.md` R110) and one attempt of a poll loop (R112, R113). -/

namespace Sys2Proof.Machine

/-- The outcome type of every meaning. -/
abbrev Result := Host.Outcome State Fault Refusal

/-! ### Registers -/

/-- A register that has just been written. -/
def Reg.held {α : Type} (v : α) : Reg α := ⟨v, true⟩

/-- The register keeps its bits and holds no value any more (R43, R230). -/
def Reg.discard {α : Type} (r : Reg α) : Reg α := { r with written := false }

/-- Read a register and go on with its value; "reading it is a model fault" where it holds none (R43). -/
def Reg.get {α : Type} (r : Reg α) (name : RegName) (k : α → Result) : Result :=
  if r.written then k r.bits else .fault (.unwrittenRead name)

/-! ### Control state -/

/-- `phase <- p, idx <- i` (R28), with one trace record if the phase changes (R39, log 12). -/
def State.goto (s : State) (p : Phase) (i : BitVec 7) : State :=
  { s with
    phase := p
    idx := i
    trace := if p = s.phase then s.trace else s.trace ++ [.phaseChange s.phase p] }

/-- Run `body` where operation `i` is the one performed in the control state (R30, R100); refuse it elsewhere (log 7). -/
def performedAt (i : Instr) (s : State) (body : Result) : Result :=
  if opAt s.phase s.idx = some i then body else .refused .notPerformedHere

/-- Run `body` where `here` holds of the operation of the control state; for the exchanger primitives (log 21). -/
def performedWhen (here : Instr → Bool) (s : State) (body : Result) : Result :=
  if (opAt s.phase s.idx).any here then body else .refused .notPerformedHere

/-! ### Failure entry and session start -/

/-- The session registers hold no value from here on, their bits stay (R230 for FAILED; R147 and U12 for DONE, log 25). -/
def State.discardSession (s : State) : State :=
  { s with
    keystreamState := s.keystreamState.discard
    checksum := s.checksum.discard
    checksumFinalizer := s.checksumFinalizer.discard
    payloadOffset := s.payloadOffset.discard
    hh := s.hh.discard }

/-- Entry to FAILED with the control state to record (R230): the one way every failure takes. -/
def State.enterFailed (s : State) (k : ErrKind) (p : Phase) (i : BitVec 7) : State :=
  ({ s.discardSession with err := k, failPhase := .held p, failIdx := .held i }).goto .failed 0

/-- `raise K` of R230: `fail_phase <- phase ; fail_idx <- idx`, "values before the write below". -/
def State.raise (s : State) (k : ErrKind) : State := s.enterFailed k s.phase s.idx

/-- `poll_count <- 0`, "where it exists" (R113, R125, R208): only when `POLL_LIMIT` is a number (R42). -/
def State.clearPollCount (s : State) : State :=
  match s.pollLimit with
  | none => s
  | some _ => { s with pollCount := .held 0 }

/-- The accepted branch of START (R125): a new session at DISCOVERY with fresh registers. It is also the only return from
FAILED (R233). The image stays the one in State (log 27). -/
def State.beginSession (s : State) (len : Word) : State :=
  ({ s with
    imgLen := .held len
    checksum := .held params.crcInit
    payloadOffset := .held 0
    keystreamState := s.keystreamState.discard
    hh := s.hh.discard
    checksumFinalizer := s.checksumFinalizer.discard
    err := .noError }).clearPollCount.goto .discovery 0

/-- RESET (`70_reset_and_hazards.md` R250): IDLE, and every other register unwritten. -/
def State.resetBlock (s : State) : State :=
  ({ s.discardSession with
    err := .noError
    imgLen := s.imgLen.discard
    pollCount := s.pollCount.discard
    failPhase := s.failPhase.discard
    failIdx := s.failIdx.discard }).goto .idle 0

/-! ### The link -/

/-- What the link port answers to the next exchange: the script's head, or a free value past its end (R110, log 4). -/
def State.answer (s : State) : LinkResult :=
  match s.peer with
  | r :: _ => r
  | [] => Config.peerAnswer s.sent.length

/-- The Word `tx` is handed to the link port and its answer is used up (R38). -/
def State.handOver (s : State) (tx : Word) : State :=
  { s with sent := s.sent ++ [tx], peer := s.peer.tail }

/-- `trace(phase, idx, tx, rx)` of R110. -/
def State.traceExchange (s : State) (tx rx : Word) : State :=
  { s with trace := s.trace ++ [.exchange s.phase s.idx tx rx] }

/-- `EXCHANGE(tx)` of R110, as one atomic step (R111), and then the rest of the operation with the response; on `Fail`,
`TransportFailure` (R224) and nothing of the rest. -/
def State.exchange (s : State) (tx : Word) (rest : State → Word → State) : State :=
  match s.answer with
  | .ok rx => rest ((s.handOver tx).traceExchange tx rx) rx
  | .fail => (s.handOver tx).raise .transportFailure

/-- An exchange whose response is discarded (format RI, R77, R146). -/
def State.exchangeIgnoring (s : State) (tx : Word) (rest : State → State) : State :=
  s.exchange tx fun s' _ => rest s'

/-- A poll attempt has missed (R113): without a limit nothing changes; with `POLL_LIMIT = k` the count goes up, and the `k`-th
miss raises `PeerUnresponsive`. -/
def State.pollMissed (s : State) : State :=
  match s.pollLimit with
  | none => s
  | some k =>
    let s' := { s with pollCount := .held (s.pollCount.bits + 1) }
    if s.pollCount.bits + 1 = k then s'.raise .peerUnresponsive else s'

/-- One attempt of `WAIT_UNTIL(w, e)` (R112): exchange, compare all 32 bits, and either go on as `matched` says or miss. -/
def State.pollOnce (s : State) (w e : Word) (matched : State → State) : State :=
  s.exchange w fun s' rx => if rx = e then matched s' else s'.pollMissed

/-! ### Registers read after the exchange -/

/-- Read, after the exchange, a register that the operation needs only on some answers: it must hold a value where the answer
calls for it (R43), and is not read on any other. A `Fail` ends the operation before such a read (R224, R232 item 4). -/
def State.getAfter {α : Type} (s : State) (needed : LinkResult → Bool) (r : Reg α) (name : RegName) (k : α → Result) : Result :=
  if r.written || !needed s.answer then k r.bits else r.get name k

/-- The answers after which LENGTH goes on (R143): all but `Fail`. -/
def answered : LinkResult → Bool
  | .ok _ => true
  | .fail => false

/-- The answers on which a poll for `e` misses (R113). -/
def missesOn (e : Word) : LinkResult → Bool
  | .ok rx => decide (rx ≠ e)
  | .fail => false

/-- A poll for `e` reads `poll_count` where it exists (R42) and only to count a miss (R113). -/
def withPollCount (s : State) (e : Word) (body : Result) : Result :=
  match s.pollLimit with
  | none => body
  | some _ => s.getAfter (missesOn e) s.pollCount .pollCount fun _ => body

/-! ### The payload loop -/

/-- The loop test of R148, after the operation's own update: PAYLOAD while `payload_offset < L`, then FINALIZE (R143, R203). -/
def State.gotoPayloadOrFinalize (s : State) (off len : Word) : State :=
  if off < roundedLength len then s.goto .payload 0 else s.goto .finalize 0

/-! ### Function rows -/

/-- A function row of R101 run alone: it touches no control state and no register, and its value goes to the model's own
field (log 1). -/
def State.yield (s : State) (v : Word) : State := { s with result := some v }

end Sys2Proof.Machine
end

