-- ==== Sys2Proof/Machine/Exchanger.lean ====
section
/-! DEFINITION. The exchanger primitives EXCHANGE and WAIT_UNTIL (`40_word_exchanger.md`) as rows of their own. They run inside
exchanging operations only, so they are performed in the control states of those operations (log 21). -/

namespace Sys2Proof.Machine

/-- `EXCHANGE(tx)` (R110): one round trip; the response is the value the primitive returns. No register is written. -/
def execExchange (tx : Word) (s : State) : Result :=
  performedWhen (fun i => (linkFormat i).isSome) s (.next (s.exchange tx State.yield))

/-- Is the operation one of the two that poll (R112: "used only during discovery and CRC-ready signaling")? -/
def polls : Instr → Bool
  | .pollDiscover | .pollCrc => true
  | .start _ | .recogA | .recogB | .hdrUnit | .hdrEnd | .infoAgain | .keyA | .keyB | .handshake | .length | .payloadWord
  | .finFold | .crcAck | .crcSend | .abort | .reset | .exchange _ | .waitUntil _ _ | .crcFold _ _ | .lcgSeed _ | .lcgNext _
  | .negate _ | .cipherMask _ _ | .cipherXor _ _ _ => false

/-- `WAIT_UNTIL(w, e)` (R112): one pass of its loop, which is one attempt. A match returns; a miss leaves the control state, so
that the same attempt is made again, or raises `PeerUnresponsive` at the limit (R113). -/
def execWaitUntil (w e : Word) (s : State) : Result :=
  performedWhen polls s (withPollCount s e (.next (s.pollOnce w e fun s' => s'.yield e)))

end Sys2Proof.Machine
end

