-- ==== Sys2Proof/Machine/Functions.lean ====
section
/-! DEFINITION. The datapath functions as rows of their own (`30_encoding.md` R101): "they touch no control state and perform
no exchange"; registers written: none. The value goes to the model's own field `result` (log 1). -/

namespace Sys2Proof.Machine

/-- `CRC_FOLD(acc, w)` (R160). -/
def execCrcFold (acc w : Word) (s : State) : Result := .next (s.yield (crcFold acc w))

/-- `LCG_SEED(kb)` (R176). -/
def execLcgSeed (kb : Byte) (s : State) : Result := .next (s.yield (lcgSeed kb))

/-- `LCG_NEXT(s)` (R177). -/
def execLcgNext (x : Word) (s : State) : Result := .next (s.yield (lcgNext x))

/-- `NEGATE(v)` (R185). -/
def execNegate (v : Word) (s : State) : Result := .next (s.yield (negate v))

/-- `CIPHER_MASK(off, k)` (R187). -/
def execCipherMask (off k : Word) (s : State) : Result := .next (s.yield (cipherMask off k))

/-- `CIPHER_XOR(w, off, k)` (R188). -/
def execCipherXor (w off k : Word) (s : State) : Result := .next (s.yield (cipherXor w off k))

end Sys2Proof.Machine
end

