-- ==== Sys2Proof/Machine/Handshake.lean ====
section
/-! DEFINITION. The handshake engine: one meaning per operation of the phases DISCOVERY, RECOGNIZE, HEADER_DONE, KEY_EXCHANGE,
HANDSHAKE and LENGTH (`41_handshake_fsm.md`). -/

namespace Sys2Proof.Machine

/-- `POLL_DISCOVER` (R128): one attempt of `WAIT_UNTIL(0x00006202, 0x72026202)`; a match enters RECOGNIZE. -/
def execPollDiscover (s : State) : Result :=
  performedAt .pollDiscover s
    (withPollCount s params.rspDiscover (.next (s.pollOnce params.cmdDiscover params.rspDiscover fun s' => s'.goto .recognize 0)))

/-- `RECOG_A` (R130). -/
def execRecogA (s : State) : Result :=
  performedAt .recogA s (.next (s.exchangeIgnoring params.cmdDiscover fun s' => { s' with idx := 1 }))

/-- `RECOG_B` (R131). -/
def execRecogB (s : State) : Result :=
  performedAt .recogB s (.next (s.exchangeIgnoring params.cmdRecognize fun s' => s'.goto .header 0))

/-- `HDR_END` (R134). -/
def execHdrEnd (s : State) : Result :=
  performedAt .hdrEnd s (.next (s.exchangeIgnoring params.cmdHeaderEnd fun s' => { s' with idx := 1 }))

/-- `INFO_AGAIN` (R135). -/
def execInfoAgain (s : State) : Result :=
  performedAt .infoAgain s (.next (s.exchangeIgnoring params.cmdDiscover fun s' => s'.goto .keyExchange 0))

/-- `KEY_A` (R137): its response must not be used (R264). -/
def execKeyA (s : State) : Result :=
  performedAt .keyA s (.next (s.exchangeIgnoring params.cmdKey fun s' => { s' with idx := 1 }))

/-- The two register writes of `KEY_B` (R138, R264). -/
def State.latchKey (s : State) (key hh : Word) : State :=
  { s with keystreamState := .held key, hh := .held hh }

/-- `KEY_B` (R138). -/
def execKeyB (s : State) : Result :=
  performedAt .keyB s (.next (s.exchange params.cmdKey fun s' rx =>
    (s'.latchKey (lcgSeed (carriedByte rx)) (hhOf (carriedByte rx))).goto .handshake 0))

/-- `HANDSHAKE` (R139): sends `hh & 0xFF` under `0x00006400`; `hh` itself stays unmasked. -/
def execHandshake (s : State) : Result :=
  performedAt .handshake s
    (s.hh.get .hh fun hh => .next (s.exchangeIgnoring (handshakeWord hh) fun s' => s'.goto .length 0))

/-- The register write of `LENGTH` (R143, R264). -/
def State.latchFinalizer (s : State) (seed : Word) : State := { s with checksumFinalizer := .held seed }

/-- `LENGTH` (R141, R143): sends the length word, latches the finalizer seed from bits 23..16 of the response, and goes on by
the loop test. `hh` and `payload_offset` are read after the exchange, so not where it fails. -/
def execLength (s : State) : Result :=
  performedAt .length s
    (s.imgLen.get .imgLen fun len =>
      s.getAfter answered s.hh .hh fun hh =>
        s.getAfter answered s.payloadOffset .payloadOffset fun off =>
          .next (s.exchange (lengthWord (roundedLength len)) fun s' rx =>
            (s'.latchFinalizer (finalizerSeed (carriedByte rx) hh)).gotoPayloadOrFinalize off len))

end Sys2Proof.Machine
end

