-- ==== Sys2Proof/Machine/HostCommands.lean ====
section
/-! DEFINITION. The host commands START, ABORT and RESET (`10_state.md` R36). -/

namespace Sys2Proof.Machine

/-- `START(img_len)` (R125, R126): ignored while busy (R106); an oversize length fails the session before it begins, recording
IDLE (R230); any other length begins a session. -/
def execStart (len : Word) (s : State) : Result :=
  if s.busy then .next s
  else if params.maxLen < len then .next (s.enterFailed .invalidImage .idle 0)
  else .next (s.beginSession len)

/-- `ABORT` (R228): enters FAILED with `Aborted` while busy, ignored otherwise (R106). -/
def execAbort (s : State) : Result :=
  if s.busy then .next (s.raise .aborted) else .next s

/-- `RESET` (R250): enabled in every control state. -/
def execReset (s : State) : Result := .next s.resetBlock

end Sys2Proof.Machine
end

