-- ==== Sys2Proof/Machine/Streaming.lean ====
section
/-! DEFINITION. The operations that move image data, HDR_UNIT and PAYLOAD_WORD, and those of the FINALIZE phase
(`45_payload_and_finalization.md`). -/

namespace Sys2Proof.Machine

/-- The write of `payload_offset` (R24). -/
def State.setOffset (s : State) (off : Word) : State := { s with payloadOffset := .held off }

/-- What `HDR_UNIT` does after its exchange: advance by two bytes; the 95th unit ends the phase (R200, R133). -/
def State.afterUnit (s : State) (off : Word) : State :=
  if s.idx.toNat + 1 = params.headerUnits then (s.setOffset (off + params.headerUnitBytes)).goto .headerDone 0
  else { s.setOffset (off + params.headerUnitBytes) with idx := s.idx + 1 }

/-- `HDR_UNIT` (R200, R201): sends two image bytes as they are. -/
def execHdrUnit (s : State) : Result :=
  performedAt .hdrUnit s
    (s.imgLen.get .imgLen fun len =>
      s.payloadOffset.get .payloadOffset fun off =>
        .next (s.exchangeIgnoring (img16 s.image len off) fun s' => s'.afterUnit off))

/-- The register writes of steps 1 and 2 of `PAYLOAD_WORD` (R204). They precede the exchange (R231). -/
def State.encodeStep (s : State) (sum key : Word) : State :=
  { s with checksum := .held sum, keystreamState := .held key }

/-- Step 5 of `PAYLOAD_WORD` and the loop test (R204). -/
def State.afterWord (s : State) (off len : Word) : State :=
  (s.setOffset (off + params.payloadWordBytes)).gotoPayloadOrFinalize (off + params.payloadWordBytes) len

/-- `PAYLOAD_WORD` (R204): the cipher gets the original word (R161), the new keystream and the old offset (R261). -/
def execPayloadWord (s : State) : Result :=
  performedAt .payloadWord s
    (s.imgLen.get .imgLen fun len =>
      s.payloadOffset.get .payloadOffset fun off =>
        s.checksum.get .checksum fun sum =>
          s.keystreamState.get .keystreamState fun key =>
            let w := img32 s.image len off
            .next ((s.encodeStep (crcFold sum w) (lcgNext key)).exchangeIgnoring (cipherXor w off (lcgNext key))
              fun s' => s'.afterWord off len))

/-- The writes of `FIN_FOLD` to `checksum` and `idx` (R208). -/
def State.foldFinal (s : State) (sum : Word) : State := { s with checksum := .held sum, idx := 1 }

/-- `FIN_FOLD` (R208, R265): fold the finalizer once; no exchange, no keystream step, no advance. -/
def execFinFold (s : State) : Result :=
  performedAt .finFold s
    (s.checksum.get .checksum fun sum =>
      s.checksumFinalizer.get .checksumFinalizer fun fin =>
        .next ((s.foldFinal (crcFold sum fin)).clearPollCount))

/-- `POLL_CRC` (R210): one attempt of `WAIT_UNTIL(0x00000065, 0x00750065)`. -/
def execPollCrc (s : State) : Result :=
  performedAt .pollCrc s
    (withPollCount s params.rspCrcReady (.next (s.pollOnce params.cmdCrcPoll params.rspCrcReady fun s' => { s' with idx := 2 })))

/-- `CRC_ACK` (R211). -/
def execCrcAck (s : State) : Result :=
  performedAt .crcAck s (.next (s.exchangeIgnoring params.cmdCrcAck fun s' => { s' with idx := 3 }))

/-- `CRC_SEND` (R212): sends the register; the response is not compared with it (R226). In DONE the session registers keep their
final values (R147) and are treated as unwritten (U12 of `93_implementation_defined.md`; log 25). -/
def execCrcSend (s : State) : Result :=
  performedAt .crcSend s
    (s.checksum.get .checksum fun sum => .next (s.exchangeIgnoring sum fun s' => s'.discardSession.goto .done 0))

end Sys2Proof.Machine
end

