-- ==== Sys2Proof/Machine/Dispatch.lean ====
section
/-! DEFINITION. One arm per row of the opcode table, in the table's order. -/

namespace Sys2Proof.Machine

def exec (i : Instr) (s : State) : Host.Outcome State Fault Refusal :=
  match i with
  | .start len => Sys2Proof.Machine.execStart len s
  | .pollDiscover => Sys2Proof.Machine.execPollDiscover s
  | .recogA => Sys2Proof.Machine.execRecogA s
  | .recogB => Sys2Proof.Machine.execRecogB s
  | .hdrUnit => Sys2Proof.Machine.execHdrUnit s
  | .hdrEnd => Sys2Proof.Machine.execHdrEnd s
  | .infoAgain => Sys2Proof.Machine.execInfoAgain s
  | .keyA => Sys2Proof.Machine.execKeyA s
  | .keyB => Sys2Proof.Machine.execKeyB s
  | .handshake => Sys2Proof.Machine.execHandshake s
  | .length => Sys2Proof.Machine.execLength s
  | .payloadWord => Sys2Proof.Machine.execPayloadWord s
  | .finFold => Sys2Proof.Machine.execFinFold s
  | .pollCrc => Sys2Proof.Machine.execPollCrc s
  | .crcAck => Sys2Proof.Machine.execCrcAck s
  | .crcSend => Sys2Proof.Machine.execCrcSend s
  | .abort => Sys2Proof.Machine.execAbort s
  | .reset => Sys2Proof.Machine.execReset s
  | .exchange tx => Sys2Proof.Machine.execExchange tx s
  | .waitUntil w e => Sys2Proof.Machine.execWaitUntil w e s
  | .crcFold acc w => Sys2Proof.Machine.execCrcFold acc w s
  | .lcgSeed kb => Sys2Proof.Machine.execLcgSeed kb s
  | .lcgNext x => Sys2Proof.Machine.execLcgNext x s
  | .negate v => Sys2Proof.Machine.execNegate v s
  | .cipherMask off k => Sys2Proof.Machine.execCipherMask off k s
  | .cipherXor w off k => Sys2Proof.Machine.execCipherXor w off k s

end Sys2Proof.Machine
end

