-- ==== Sys2Proof/Machine/Sequencer.lean ====
section
/-! DEFINITION. What runs next at an operation boundary (`10_state.md` R30, R31; `60_exceptions.md` R232), and how a table word
is placed for the next step (log 18). -/

namespace Sys2Proof.Machine

/-- A boundary at which the host asserts nothing. -/
def HostSlot.quiet : HostSlot := ⟨false, false, none⟩

/-- What the host asserts at the coming boundary; nothing once its schedule is used up (log 5). -/
def State.slot (s : State) : HostSlot := s.host.headD .quiet

/-- The boundary is past. -/
def State.passBoundary (s : State) : State := { s with host := s.host.tail }

/-- What a boundary leads to. -/
inductive Selection where
  /-- This command or operation runs. -/
  | run (i : Instr)
  /-- "no operation is enabled" (R31). -/
  | nothing
  /-- The control state is none of R30's (R105). -/
  | illegal
  deriving DecidableEq, Repr

/-- The operation of a busy control state; the two other answers are for control states without one. -/
def State.currentOp (s : State) : Selection :=
  match opAt s.phase s.idx with
  | some i => .run i
  | none => .illegal

/-- The priority of R232: RESET wins over everything; a pending ABORT is taken before the next operation; START counts only
while no session runs, and an ABORT only while one does (R106). -/
def State.select (s : State) : Selection :=
  if s.slot.reset then .run .reset
  else if !controlLegal s.phase s.idx then .illegal
  else if s.busy then (if s.slot.abort then .run .abort else s.currentOp)
  else
    match s.slot.start with
    | some len => .run (.start len)
    | none => .nothing

/-- The schedule with nothing asserted at the coming boundary. -/
def quietNext : List HostSlot → List HostSlot
  | [] => []
  | _ :: rest => .quiet :: rest

/-- Make a register readable without changing its bits. -/
def Reg.ensure {α : Type} (r : Reg α) : Reg α := { r with written := true }

/-- Put the source of an operation's variable field, and every register it reads, in place, so that in its control state it
sends `w` (log 18). -/
def State.withField (s : State) (i : Instr) (w : Word) : State :=
  match i with
  | .hdrUnit =>
    { s with
      payloadOffset := .held 0
      imgLen := .held 2
      image := (s.image.write 0 (w.extractLsb' 0 8)).write 1 (w.extractLsb' 8 8) }
  | .handshake => { s with hh := .held (w &&& params.keyMask) }
  | .length =>
    { s with
      imgLen := .held (w * params.lenDivisor + params.lenBias)
      hh := s.hh.ensure
      payloadOffset := s.payloadOffset.ensure }
  | .payloadWord =>
    { s with
      imgLen := s.imgLen.ensure
      payloadOffset := s.payloadOffset.ensure
      checksum := s.checksum.ensure
      keystreamState := s.keystreamState.ensure }
  | .finFold => { s with checksum := s.checksum.ensure, checksumFinalizer := s.checksumFinalizer.ensure }
  | .crcSend => { s with checksum := .held w }
  | .pollDiscover | .pollCrc => { s with pollCount := s.pollCount.ensure }
  | .start _ | .recogA | .recogB | .hdrEnd | .infoAgain | .keyA | .keyB | .crcAck | .abort | .reset | .exchange _
  | .waitUntil _ _ | .crcFold _ _ | .lcgSeed _ | .lcgNext _ | .negate _ | .cipherMask _ _ | .cipherXor _ _ _ => s

/-- Make operation `i` the one of the control state, sending `w`, at a boundary where the host asserts nothing. -/
def State.place (s : State) (i : Instr) (w : Word) : State :=
  match pointOf i with
  | none => s
  | some (p, n) => { s.withField i w with phase := p, idx := n, host := quietNext s.host }

end Sys2Proof.Machine
end

