-- ==== Sys2Proof/Machine/Step.lean ====
section
/-! DEFINITION. One step of the block: what the boundary selects runs (`10_state.md` R31, `60_exceptions.md` R232). -/

namespace Sys2Proof.Machine

/-- One operation boundary and what follows it. Where no operation is enabled the state is unchanged but for the boundary that
is past (R31, log 6); a control state outside R30 is refused (R105). -/
def step (s : State) : Host.Outcome State Fault Refusal :=
  match s.select with
  | .run i => exec i s.passBoundary
  | .nothing => .next s.passBoundary
  | .illegal => .refused .illegalControl

/-- `s` with the operation of a table word made the next one, sending that word (log 18). -/
def State.withFetchWord (s : State) (nbits w : Nat) : State :=
  match decodeTableWord nbits w with
  | none => s
  | some i => s.place i (BitVec.ofNat 32 w)

end Sys2Proof.Machine
end

