-- ==== Sys2Proof/Machine/Traffic.lean ====
section
/-! DEFINITION. The successor table of `10_state.md` R31, and the decoder of link traffic that `30_encoding.md` R102 describes:
"given the sequence of `(tx, rx)` pairs of one session from its first exchange, the operation of each pair is determined by
running the successor table". The machine does not use this file. -/

namespace Sys2Proof.Machine

/-- The successor of a control state after an answered exchange (R31), with no POLL_LIMIT; `more` is
`payload_offset < L` after the operation's own update (R148). -/
def successor (more : Bool) (p : Phase) (i : BitVec 7) (rx : Word) : Phase × BitVec 7 :=
  match p with
  | .discovery => if rx = params.rspDiscover then (.recognize, 0) else (.discovery, 0)
  | .recognize => if i = 0 then (.recognize, 1) else (.header, 0)
  | .header => if i.toNat + 1 < params.headerUnits then (.header, i + 1) else (.headerDone, 0)
  | .headerDone => if i = 0 then (.headerDone, 1) else (.keyExchange, 0)
  | .keyExchange => if i = 0 then (.keyExchange, 1) else (.handshake, 0)
  | .handshake => (.length, 0)
  | .length => if more then (.payload, 0) else (.finalize, 0)
  | .payload => if more then (.payload, 0) else (.finalize, 0)
  | .finalize =>
    if i = 1 then (if rx = params.rspCrcReady then (.finalize, 2) else (.finalize, 1))
    else if i = 2 then (.finalize, 3)
    else (.done, 0)
  | .idle => (.idle, i)
  | .done => (.done, i)
  | .failed => (.failed, i)

/-- How far a reader of the traffic has come: the control state, the offset, and the rounded length once it is known. -/
structure Cursor where
  phase : Phase
  idx : BitVec 7
  off : Word
  rounded : Word
  deriving DecidableEq, Repr

/-- The reader's place before the first exchange of a session. -/
def Cursor.first : Cursor := ⟨.discovery, 0, 0, 0⟩

/-- `FIN_FOLD` exchanges nothing, so the reader passes over it (R208). -/
def Cursor.passFold (c : Cursor) : Cursor :=
  if c.phase = .finalize ∧ c.idx = 0 then { c with idx := 1 } else c

/-- How far one exchange advances the offset (R24). -/
def advance : Phase → Word
  | .header => params.headerUnitBytes
  | .payload => params.payloadWordBytes
  | .idle | .discovery | .recognize | .headerDone | .keyExchange | .handshake | .length | .finalize | .done | .failed => 0

/-- The reader's place after the pair `(tx, rx)`. The length word tells `L`: four times `n`, plus the bias (R82). -/
def Cursor.next (c : Cursor) (tx rx : Word) : Cursor :=
  let off := c.off + advance c.phase
  let rounded := if c.phase = .length then tx * params.lenDivisor + params.lenBias else c.rounded
  let (p, i) := successor (decide (off < rounded)) c.phase c.idx rx
  Cursor.passFold ⟨p, i, off, rounded⟩

/-- The frame of every exchange of a session (R102); where the word is not one the block sends there, the decoder's error. -/
def decodeTraffic : Cursor → List (Word × Word) → List (Except DecodeError Frame)
  | _, [] => []
  | c, (tx, rx) :: rest => (decode c.phase c.idx (wireBytes tx)).map Prod.fst :: decodeTraffic (c.next tx rx) rest

end Sys2Proof.Machine
end

