-- ==== Sys2Proof/Safety.lean ====
section
/-! DEFINITION. What claims call a good state and a finished run: the invariant of the reachable states (`10_state.md` R45 and
the facts R20 to R35 and R43 state about them), and the classes of `60_exceptions.md` R246 and `70_reset_and_hazards.md`
R269. -/

namespace Sys2Proof.Machine

/-- How a state counts for a claim about a session (R246, R269). -/
inductive RunClass where
  /-- IDLE: "no claim about a session holds of it". -/
  | noSession
  /-- A busy phase: the run is not over. -/
  | running
  /-- DONE: "the only final state of a session". -/
  | succeeded
  /-- FAILED: the session's fault, never final. -/
  | sessionFault (kind : ErrKind)
  deriving DecidableEq, Repr

/-- The class of a state (R246). -/
def State.runClass (s : State) : RunClass :=
  match s.phase with
  | .idle => .noSession
  | .done => .succeeded
  | .failed => .sessionFault s.err
  | .discovery | .recognize | .header | .headerDone | .keyExchange | .handshake | .length | .payload | .finalize => .running

/-- "A run of the block is over when `phase` is DONE or FAILED" (R269). -/
def State.over (s : State) : Bool := decide (s.phase = .done ∨ s.phase = .failed)

/-- The phases in which `img_len`, `checksum` and `payload_offset` hold the session's values: from START up to DONE, where they
are treated as unwritten (log 25). -/
def State.inSession (s : State) : Bool :=
  match s.phase with
  | .idle | .done | .failed => false
  | .discovery | .recognize | .header | .headerDone | .keyExchange | .handshake | .length | .payload | .finalize => true

/-- The phases after `KEY_B`: `keystream_state` and `hh` hold values (until DONE, log 25). -/
def State.afterKey (s : State) : Bool :=
  match s.phase with
  | .handshake | .length | .payload | .finalize => true
  | .idle | .discovery | .recognize | .header | .headerDone | .keyExchange | .done | .failed => false

/-- The phases after `LENGTH`: `checksum_finalizer` holds a value (until DONE, log 25). -/
def State.afterLength (s : State) : Bool :=
  match s.phase with
  | .payload | .finalize => true
  | .idle | .discovery | .recognize | .header | .headerDone | .keyExchange | .handshake | .length | .done | .failed => false

/-- The control states of the two poll loops. -/
def State.polling (s : State) : Bool := decide (s.phase = .discovery ∨ (s.phase = .finalize ∧ s.idx = 1))

/-- `L` of the session (R26). -/
def State.rounded (s : State) : Word := roundedLength s.imgLen.bits

/-- Where `payload_offset` stands in each phase (R24, R45 items 2 and 3, R202, R205). After DONE and FAILED no claim reads it
(R147, R230). -/
def State.offsetOk (s : State) : Prop :=
  match s.phase with
  | .idle | .done | .failed => True
  | .discovery | .recognize => s.payloadOffset.bits = 0
  | .header => s.payloadOffset.bits = 2 * s.idx.setWidth 32
  | .headerDone | .keyExchange | .handshake | .length => s.payloadOffset.bits = 0xBE
  | .payload => 0xBE ≤ s.payloadOffset.bits ∧ s.payloadOffset.bits.toNat % 4 = 2 ∧ s.payloadOffset.bits < s.rounded
  | .finalize => s.payloadOffset.bits = if s.rounded ≤ 0xBE then 0xBE else s.rounded + 2

/-- The invariant of the reachable states. -/
structure SessionInv (s : State) : Prop where
  /-- The control state is one of R30's (R105). -/
  control : controlLegal s.phase s.idx = true
  /-- The image is in canonical form (log 9). -/
  image : s.image.wf = true
  /-- A numeric POLL_LIMIT is positive (R7). -/
  limit : s.pollLimit ≠ some 0
  /-- "`err != None` exactly when `phase == FAILED`" (R33). -/
  err : s.err ≠ .noError ↔ s.phase = .failed
  /-- A failure has recorded where it happened (R34). -/
  failRecord : s.phase = .failed → s.failPhase.written = true ∧ s.failIdx.written = true
  /-- `img_len`, `checksum`, `payload_offset` hold values from START until DONE, and the length is legal (R43, R26). -/
  session : s.inSession = true →
    s.imgLen.written = true ∧ s.checksum.written = true ∧ s.payloadOffset.written = true ∧ s.imgLen.bits ≤ 0x40000
  /-- `keystream_state` and `hh` hold values from KEY_B on (R43). -/
  keys : s.afterKey = true → s.keystreamState.written = true ∧ s.hh.written = true
  /-- `checksum_finalizer` holds a value from LENGTH on (R43). -/
  finalizer : s.afterLength = true → s.checksumFinalizer.written = true
  /-- R45 item 1. -/
  checksumRange : s.checksum.written = true → s.checksum.bits ≤ 0xFFFF
  /-- R45 items 2 and 3. -/
  offset : s.offsetOk
  /-- R45 item 4. -/
  hhRange : s.hh.written = true → 0x0F ≤ s.hh.bits ∧ s.hh.bits ≤ 0x10E
  /-- R45 item 5. -/
  finalizerRange : s.checksumFinalizer.written = true →
    0xFFFF000F ≤ s.checksumFinalizer.bits ∧ s.checksumFinalizer.bits ≤ 0xFFFF020D
  /-- R45 item 6: the seed stands until the first payload word. -/
  seedRange : s.phase = .handshake ∨ s.phase = .length →
    s.keystreamState.bits ≤ 0xD0 ∨ 0xFFFFFFD1 ≤ s.keystreamState.bits
  /-- In a poll loop with a limit the count holds a value below it (R113). -/
  pollCount : s.polling = true → ∀ k, s.pollLimit = some k → s.pollCount.written = true ∧ s.pollCount.bits < k

end Sys2Proof.Machine
end

