-- ==== Sys2Proof/Certificates/Slice0/Obligations.lean ====
section
/-! DEFINITION. The statements for the provers, each a numbered rule of `spec/` or what its sections add up to. A next state is
written out as `s` with the fields that change, so that each such statement is its own frame: every field not named, the image
included, is as before. Where a statement speaks of an answered exchange, `s.answer = .ok rx` holds for every `rx`. What such a
state shows of `sent` and of the form of `trace` is the model's choice (logs 12, 13). -/

namespace Sys2Proof.Machine

/-- `s` after a completed exchange of `tx` for `rx`: the link and the trace have moved on, nothing else (R110). The records `sent`
and `trace` are the model's (logs 12, 13). -/
def exchanged (s : State) (tx rx : Word) : State :=
  { s with
    sent := s.sent ++ [tx]
    peer := s.peer.tail
    trace := s.trace ++ [.exchange s.phase s.idx tx rx] }

/-- `s` with another phase, which one trace record reports (R39; its form is log 12). -/
def entered (s : State) (p : Phase) : State :=
  { s with phase := p, idx := 0, trace := s.trace ++ [.phaseChange s.phase p] }

/-- `s` after the failure `k` of a busy phase, recorded as R230 says: the session registers keep their bits and hold no value
(log 14). -/
def failedWith (s : State) (k : ErrKind) : State :=
  entered
    { s with
      err := k
      failPhase := ⟨s.phase, true⟩
      failIdx := ⟨s.idx, true⟩
      keystreamState := { s.keystreamState with written := false }
      checksum := { s.checksum with written := false }
      checksumFinalizer := { s.checksumFinalizer with written := false }
      payloadOffset := { s.payloadOffset with written := false }
      hh := { s.hh with written := false } } .failed

/-- The state a run reaches after `n` steps that all answer next; none if one stops. -/
def stepsTo : Nat → State → Option State
  | 0, s => some s
  | n + 1, s =>
    match step s with
    | .next t => stepsTo n t
    | .fault _ => none
    | .refused _ => none

/-- The occasions at which a session register loses its value (R125, R230, R250, and DONE by U12, log 25). -/
def sessionLost (i : Instr) (t : State) : Prop := i = .reset ∨ (∃ len, i = .start len) ∨ i = .crcSend ∨ t.phase = .failed

/-- The Word an operation hands to the link in state `s` (R100, column "Sends"), by the expressions of its meaning; none where it
sends none of its own. -/
def sentWord (s : State) : Instr → Option Word
  | .pollDiscover => some params.cmdDiscover
  | .recogA => some params.cmdDiscover
  | .recogB => some params.cmdRecognize
  | .hdrUnit => some (img16 s.image s.imgLen.bits s.payloadOffset.bits)
  | .hdrEnd => some params.cmdHeaderEnd
  | .infoAgain => some params.cmdDiscover
  | .keyA => some params.cmdKey
  | .keyB => some params.cmdKey
  | .handshake => some (handshakeWord s.hh.bits)
  | .length => some (lengthWord (roundedLength s.imgLen.bits))
  | .payloadWord =>
    some (cipherXor (img32 s.image s.imgLen.bits s.payloadOffset.bits) s.payloadOffset.bits (lcgNext s.keystreamState.bits))
  | .pollCrc => some params.cmdCrcPoll
  | .crcAck => some params.cmdCrcAck
  | .crcSend => some s.checksum.bits
  | .start _ | .finFold | .abort | .reset | .exchange _ | .waitUntil _ _ | .crcFold _ _ | .lcgSeed _ | .lcgNext _ | .negate _
  | .cipherMask _ _ | .cipherXor _ _ _ => none

/-- The register writes of an operation that precede its exchange: only `PAYLOAD_WORD` has any (R224, R231). -/
def beforeExchange (i : Instr) (s : State) : State :=
  if i = .payloadWord then
    { s with
      checksum := ⟨crcFold s.checksum.bits (img32 s.image s.imgLen.bits s.payloadOffset.bits), true⟩
      keystreamState := ⟨lcgNext s.keystreamState.bits, true⟩ }
  else s

/-- How many payload words a session of rounded length `l` sends (R203, R205). -/
def payloadWords (l : Word) : Nat := (l.toNat - 188) / 4

/-- The `j`-th payload word of an image, counted from 0 (R202, R205). -/
def plainWord (m : Image) (len : Word) (j : Nat) : Word := img32 m len (0xBE + 4 * BitVec.ofNat 32 j)

/-- `LCG_NEXT` applied `n` times (R178). -/
def lcgTimes : Nat → Word → Word
  | 0, s => s
  | n + 1, s => lcgTimes n (lcgNext s)

end Sys2Proof.Machine

open Sys2Proof Sys2Proof.Machine

/-! ### Reset and host commands -/

/-- R44, column "After RESET": the control state and `err` have values, every other register is unwritten. That the model starts
with POLL_LIMIT `none` is the value R7 takes and the model's choice to hold in State (log 10). -/
def Obligations.ResetStateIsIdleAndUnwritten : Prop :=
  let s := State.reset
  s.phase = .idle ∧ s.idx = 0 ∧ s.err = .noError ∧ s.failPhase.written = false ∧ s.failIdx.written = false ∧
    s.imgLen.written = false ∧ s.checksum.written = false ∧ s.payloadOffset.written = false ∧
    s.keystreamState.written = false ∧ s.hh.written = false ∧ s.checksumFinalizer.written = false ∧
    s.pollCount.written = false ∧ s.pollLimit = none

/-- R250: in every control state RESET leaves IDLE, `idx` 0, `err` None and every other register unwritten. That storage bits
stay and that the change of phase is traced are the model's choices (logs 2, 12). -/
def Obligations.ResetCommandUnwritesEveryRegister : Prop :=
  ∀ s : State, exec .reset s = .next
    { s with
      phase := .idle
      idx := 0
      err := .noError
      failPhase := { s.failPhase with written := false }
      failIdx := { s.failIdx with written := false }
      imgLen := { s.imgLen with written := false }
      pollCount := { s.pollCount with written := false }
      keystreamState := { s.keystreamState with written := false }
      checksum := { s.checksum with written := false }
      checksumFinalizer := { s.checksumFinalizer with written := false }
      payloadOffset := { s.payloadOffset with written := false }
      hh := { s.hh with written := false }
      trace := if s.phase = .idle then s.trace else s.trace ++ [.phaseChange s.phase .idle] }

/-- R125: in IDLE, DONE and FAILED a legal length begins a session and an oversize one fails it; while busy START is ignored. -/
def Obligations.StartCommandBeginsOrFailsSession : Prop :=
  ∀ (s : State) (len : Word),
    (s.phase = .idle ∨ s.phase = .done ∨ s.phase = .failed → len ≤ 0x00040000 →
      exec (.start len) s = .next
        { s with
          imgLen := ⟨len, true⟩
          checksum := ⟨0x0000C387, true⟩
          payloadOffset := ⟨0, true⟩
          keystreamState := { s.keystreamState with written := false }
          hh := { s.hh with written := false }
          checksumFinalizer := { s.checksumFinalizer with written := false }
          pollCount := if s.pollLimit = none then s.pollCount else ⟨0, true⟩
          err := .noError
          phase := .discovery
          idx := 0
          trace := s.trace ++ [.phaseChange s.phase .discovery] }) ∧
    (s.phase = .idle ∨ s.phase = .done ∨ s.phase = .failed → 0x00040000 < len →
      exec (.start len) s = .next
        { s with
          err := .invalidImage
          failPhase := ⟨.idle, true⟩
          failIdx := ⟨0, true⟩
          phase := .failed
          idx := 0
          keystreamState := { s.keystreamState with written := false }
          checksum := { s.checksum with written := false }
          checksumFinalizer := { s.checksumFinalizer with written := false }
          payloadOffset := { s.payloadOffset with written := false }
          hh := { s.hh with written := false }
          trace := if s.phase = .failed then s.trace else s.trace ++ [.phaseChange s.phase .failed] }) ∧
    (¬(s.phase = .idle ∨ s.phase = .done ∨ s.phase = .failed) → exec (.start len) s = .next s)

/-- R106: START while busy and ABORT while not busy change nothing; an oversize START is not ignored, it fails the session
before it begins: nothing is sent. -/
def Obligations.CommandsOutOfPlaceAreIgnored : Prop :=
  ∀ s : State,
    (s.busy = true → ∀ len, exec (.start len) s = .next s) ∧
    (s.busy = false → exec .abort s = .next s) ∧
    (s.busy = false → ∀ len : Word, 0x40000 < len →
      ∃ t, exec (.start len) s = .next t ∧ t.phase = .failed ∧ t.err = .invalidImage ∧ t.sent = s.sent ∧ t.peer = s.peer)

/-- R228: while busy ABORT enters FAILED with `Aborted` and the control state of the operation that would have run next. Kept bits
and trace record are as logs 12 and 14 say. -/
def Obligations.AbortEntersFailedWhileBusy : Prop :=
  ∀ s : State, s.busy = true → exec .abort s = .next (failedWith s .aborted)

/-- R232 items 1 and 2: RESET, then ABORT, then the operation; with no session START. Two things are the model's choices: a
boundary uses up its slot of the schedule, a command it does not take included (log 5), and a step with nothing to run answers
next with only that boundary past (log 6). -/
def Obligations.BoundaryPriorityIsResetAbortOperation : Prop :=
  ∀ s : State,
    (s.slot.reset = true → step s = exec .reset s.passBoundary) ∧
    (s.slot.reset = false → controlLegal s.phase s.idx = true → s.busy = true → s.slot.abort = true →
      step s = exec .abort s.passBoundary) ∧
    (∀ i, s.slot.reset = false → s.slot.abort = false → opAt s.phase s.idx = some i → step s = exec i s.passBoundary) ∧
    (∀ len, s.slot.reset = false → controlLegal s.phase s.idx = true → s.busy = false → s.slot.start = some len →
      step s = exec (.start len) s.passBoundary) ∧
    (s.slot.reset = false → controlLegal s.phase s.idx = true → s.busy = false → s.slot.start = none →
      step s = .next { s with host := s.host.tail })

/-- A step runs the decoded operation: if any bytes decode in the control state, they decode to the operation that `step`
runs at a boundary where the host asserts nothing, past that boundary (R75, R102). -/
def Obligations.StepRunsTheDecodedOperation : Prop :=
  ∀ (s : State) (bytes rest : List Byte) (f : Frame), s.slot = .quiet → decode s.phase s.idx bytes = .ok (f, rest) →
    step s = exec f.instr { s with host := s.host.tail }

/-- A control state outside R30 is refused unless RESET is asserted (R105). -/
def Obligations.IllegalControlIsRefused : Prop :=
  ∀ s : State, controlLegal s.phase s.idx = false → s.slot.reset = false → step s = .refused .illegalControl

/-- An operation run outside its control state, and an exchanger primitive run where nothing exchanges or polls, is refused.
That this stops is the model's choice (logs 7, 21); no step does it. -/
def Obligations.RowsOutOfTheirControlStateAreRefused : Prop :=
  ∀ s : State,
    (∀ i, (pointOf i).isSome = true → opAt s.phase s.idx ≠ some i → exec i s = .refused .notPerformedHere) ∧
    (∀ tx, opAt s.phase s.idx = none ∨ opAt s.phase s.idx = some .finFold →
      exec (.exchange tx) s = .refused .notPerformedHere) ∧
    (∀ w e, opAt s.phase s.idx ≠ some .pollDiscover → opAt s.phase s.idx ≠ some .pollCrc →
      exec (.waitUntil w e) s = .refused .notPerformedHere)

/-- R43, R246, D21: an operation that reads a register that holds no value is a model fault, whichever register it is. LENGTH reads
`hh` and `payload_offset` after an answered exchange (R143), and a poll reads `poll_count` to count a miss (R113; log 20). Where the
exchange of LENGTH fails, it does not read them and enters FAILED (R224; the records are as logs 13 and 14 say). -/
def Obligations.UnwrittenReadIsAModelFault : Prop :=
  ∀ s : State,
    (s.phase = .header → s.idx.toNat ≤ 94 → (s.imgLen.written && s.payloadOffset.written) = false →
      ∃ r, exec .hdrUnit s = .fault (.unwrittenRead r)) ∧
    (s.phase = .handshake → s.idx = 0 → s.hh.written = false → exec .handshake s = .fault (.unwrittenRead .hh)) ∧
    (s.phase = .length → s.idx = 0 → s.imgLen.written = false → exec .length s = .fault (.unwrittenRead .imgLen)) ∧
    (∀ rx, s.phase = .length → s.idx = 0 → s.answer = .ok rx →
      (s.imgLen.written && s.hh.written && s.payloadOffset.written) = false → ∃ r, exec .length s = .fault (.unwrittenRead r)) ∧
    (s.phase = .length → s.idx = 0 → s.answer = .fail → s.imgLen.written = true →
      exec .length s = .next (failedWith
        { s with sent := s.sent ++ [lengthWord (roundedLength s.imgLen.bits)], peer := s.peer.tail } .transportFailure)) ∧
    (s.phase = .payload → s.idx = 0 →
      (s.imgLen.written && s.payloadOffset.written && s.checksum.written && s.keystreamState.written) = false →
      ∃ r, exec .payloadWord s = .fault (.unwrittenRead r)) ∧
    (s.phase = .finalize → s.idx = 0 → (s.checksum.written && s.checksumFinalizer.written) = false →
      ∃ r, exec .finFold s = .fault (.unwrittenRead r)) ∧
    (s.phase = .finalize → s.idx = 3 → s.checksum.written = false → exec .crcSend s = .fault (.unwrittenRead .checksum)) ∧
    (∀ k rx, s.pollLimit = some k → s.pollCount.written = false → s.answer = .ok rx →
      (s.phase = .discovery → s.idx = 0 → rx ≠ 0x72026202 →
        exec .pollDiscover s = .fault (.unwrittenRead .pollCount)) ∧
      (s.phase = .finalize → s.idx = 1 → rx ≠ 0x00750065 → exec .pollCrc s = .fault (.unwrittenRead .pollCount)) ∧
      ((s.phase = .discovery ∧ s.idx = 0) ∨ (s.phase = .finalize ∧ s.idx = 1) → ∀ w e, rx ≠ e →
        exec (.waitUntil w e) s = .fault (.unwrittenRead .pollCount)))

/-! ### Operations that send a fixed word -/

/-- R130, R131, R134, R135, R137, R211: each sends its constant, discards the response and goes to its one successor. -/
def Obligations.FixedWordOperationsComplete : Prop :=
  ∀ (s : State) (rx : Word), s.answer = .ok rx →
    (s.phase = .recognize → s.idx = 0 → exec .recogA s = .next { exchanged s 0x00006202 rx with idx := 1 }) ∧
    (s.phase = .recognize → s.idx = 1 → exec .recogB s = .next (entered (exchanged s 0x00006102 rx) .header)) ∧
    (s.phase = .headerDone → s.idx = 0 → exec .hdrEnd s = .next { exchanged s 0x00006200 rx with idx := 1 }) ∧
    (s.phase = .headerDone → s.idx = 1 → exec .infoAgain s = .next (entered (exchanged s 0x00006202 rx) .keyExchange)) ∧
    (s.phase = .keyExchange → s.idx = 0 → exec .keyA s = .next { exchanged s 0x000063D1 rx with idx := 1 }) ∧
    (s.phase = .finalize → s.idx = 2 → exec .crcAck s = .next { exchanged s 0x00000066 rx with idx := 3 })

/-- R128: `POLL_DISCOVER` sends `0x00006202`; exactly `0x72026202` enters RECOGNIZE; without a limit any other response leaves
the control state as it is. -/
def Obligations.PollDiscoverComparesAllBits : Prop :=
  ∀ (s : State) (rx : Word), s.answer = .ok rx → s.phase = .discovery → s.idx = 0 →
    (rx = 0x72026202 → exec .pollDiscover s = .next (entered (exchanged s 0x00006202 rx) .recognize)) ∧
    (s.pollLimit = none → rx ≠ 0x72026202 → exec .pollDiscover s = .next (exchanged s 0x00006202 rx))

/-- R210: `POLL_CRC` sends `0x00000065`; exactly `0x00750065` goes on to CRC_ACK; without a limit any other response leaves the
control state as it is. -/
def Obligations.PollCrcComparesAllBits : Prop :=
  ∀ (s : State) (rx : Word), s.answer = .ok rx → s.phase = .finalize → s.idx = 1 →
    (rx = 0x00750065 → exec .pollCrc s = .next { exchanged s 0x00000065 rx with idx := 2 }) ∧
    (s.pollLimit = none → rx ≠ 0x00750065 → exec .pollCrc s = .next (exchanged s 0x00000065 rx))

/-- R113 for both polls and for the WAIT_UNTIL row in either polling control state: with `POLL_LIMIT = k` a miss counts one up, and
the miss that makes the count `k` raises `PeerUnresponsive`. -/
def Obligations.PollLimitBoundsTheMisses : Prop :=
  ∀ (s : State) (rx : Word) (k : Nat), s.answer = .ok rx → s.pollLimit = some k → s.pollCount.written = true →
    let missed (tx : Word) : State := { exchanged s tx rx with pollCount := ⟨s.pollCount.bits + 1, true⟩ }
    (s.phase = .discovery → s.idx = 0 → rx ≠ 0x72026202 →
      exec .pollDiscover s = .next
        (if s.pollCount.bits + 1 = k then failedWith (missed 0x00006202) .peerUnresponsive else missed 0x00006202)) ∧
    (s.phase = .finalize → s.idx = 1 → rx ≠ 0x00750065 →
      exec .pollCrc s = .next
        (if s.pollCount.bits + 1 = k then failedWith (missed 0x00000065) .peerUnresponsive else missed 0x00000065)) ∧
    ((s.phase = .discovery ∧ s.idx = 0) ∨ (s.phase = .finalize ∧ s.idx = 1) → ∀ w e, rx ≠ e →
      exec (.waitUntil w e) s = .next
        (if s.pollCount.bits + 1 = k then failedWith (missed w) .peerUnresponsive else missed w))

/-! ### Operations that compute -/

/-- R138: `KEY_B` seeds `keystream_state` and `hh` from bits 23..16 of its own response. -/
def Obligations.KeyBLatchesTheKeyByte : Prop :=
  ∀ (s : State) (r : Word), s.answer = .ok r → s.phase = .keyExchange → s.idx = 1 →
    exec .keyB s = .next
      (entered
        { exchanged s 0x000063D1 r with
          keystreamState := ⟨0xFFFFFFD1 + ((r >>> 16) &&& 0xFF), true⟩
          hh := ⟨0x0000000F + ((r >>> 16) &&& 0xFF), true⟩ } .handshake)

/-- R139: the handshake word is `(hh & 0xFF) | 0x00006400`, and `hh` stays unmasked. -/
def Obligations.HandshakeSendsTheLowByteOfHh : Prop :=
  ∀ (s : State) (rx : Word), s.answer = .ok rx → s.phase = .handshake → s.idx = 0 → s.hh.written = true →
    exec .handshake s = .next (entered (exchanged s ((s.hh.bits &&& 0xFF) ||| 0x00006400) rx) .length)

/-- R141 and R143: the length word, the finalizer seed from bits 23..16 of the response, and the loop test. -/
def Obligations.LengthSendsSizeAndLatchesFinalizer : Prop :=
  ∀ (s : State) (r2 : Word), s.answer = .ok r2 → s.phase = .length → s.idx = 0 →
    s.imgLen.written = true → s.hh.written = true → s.payloadOffset.written = true →
    let l : Word := (s.imgLen.bits + 15) &&& 0xFFFFFFF0
    exec .length s = .next
      (entered
        { exchanged s ((l - 0x00000190) >>> 2) r2 with
          checksumFinalizer := ⟨(((r2 >>> 16) &&& 0xFF) + s.hh.bits) ||| 0xFFFF0000, true⟩ }
        (if s.payloadOffset.bits < l then .payload else .finalize))

/-- R200 and R201: a header unit goes out as it is; `payload_offset` advances by 2, the 95th unit ends the phase, and neither
checksum nor keystream changes. -/
def Obligations.HeaderUnitIsSentUnmodified : Prop :=
  ∀ (s : State) (rx : Word), s.answer = .ok rx → s.phase = .header → s.idx.toNat ≤ 94 →
    s.imgLen.written = true → s.payloadOffset.written = true →
    let unit := img16 s.image s.imgLen.bits s.payloadOffset.bits
    let t := { exchanged s unit rx with payloadOffset := ⟨s.payloadOffset.bits + 2, true⟩ }
    exec .hdrUnit s = .next (if s.idx = 94 then entered t .headerDone else { t with idx := s.idx + 1 })

/-- R204: the five steps of a payload word, with the plaintext in the checksum, the new keystream and the old offset in the
cipher. -/
def Obligations.PayloadWordFoldsAdvancesEncrypts : Prop :=
  ∀ (s : State) (rx : Word), s.answer = .ok rx → s.phase = .payload → s.idx = 0 →
    s.imgLen.written = true → s.payloadOffset.written = true → s.checksum.written = true →
    s.keystreamState.written = true →
    let off := s.payloadOffset.bits
    let w := img32 s.image s.imgLen.bits off
    let key : Word := 0x6F646573 * s.keystreamState.bits + 1
    let enc := w ^^^ (~~~(0x02000000 + off) + 1) ^^^ key ^^^ 0x43202F2F
    let t :=
      { exchanged s enc rx with
        checksum := ⟨crcFold s.checksum.bits w, true⟩
        keystreamState := ⟨key, true⟩
        payloadOffset := ⟨off + 4, true⟩ }
    exec .payloadWord s = .next
      (if off + 4 < ((s.imgLen.bits + 15) &&& 0xFFFFFFF0) then t else entered t .finalize)

/-- R208: the finalizer is folded into the checksum, nothing is sent, keystream and offset stay. -/
def Obligations.FinalFoldTouchesOnlyTheChecksum : Prop :=
  ∀ s : State, s.phase = .finalize → s.idx = 0 → s.checksum.written = true → s.checksumFinalizer.written = true →
    exec .finFold s = .next
      { s with
        checksum := ⟨crcFold s.checksum.bits s.checksumFinalizer.bits, true⟩
        idx := 1
        pollCount := if s.pollLimit = none then s.pollCount else ⟨0, true⟩ }

/-- R212 and R226: `CRC_SEND` sends the register; whatever comes back, the session is done. The session registers keep their bits
(R147) and count as unwritten from here on (U12, log 25). -/
def Obligations.CrcSendEndsInDoneWhateverComesBack : Prop :=
  ∀ (s : State) (rx : Word), s.answer = .ok rx → s.phase = .finalize → s.idx = 3 → s.checksum.written = true →
    exec .crcSend s = .next
      (entered
        { exchanged s s.checksum.bits rx with
          keystreamState := { s.keystreamState with written := false }
          checksum := { s.checksum with written := false }
          checksumFinalizer := { s.checksumFinalizer with written := false }
          payloadOffset := { s.payloadOffset with written := false }
          hh := { s.hh with written := false } } .done)

/-! ### Exchanger primitives and function rows -/

/-- R110: in the control state of any exchanging operation `EXCHANGE(tx)` sends `tx` unchanged and returns the response, or
raises `TransportFailure`; it writes no register. The field `result` that holds the value is the model's (log 1). -/
def Obligations.ExchangePrimitiveReturnsTheResponse : Prop :=
  ∀ (s : State) (i : Instr) (tx : Word), opAt s.phase s.idx = some i → i ≠ .finFold →
    (∀ rx, s.answer = .ok rx → exec (.exchange tx) s = .next { exchanged s tx rx with result := some rx }) ∧
    (s.answer = .fail → exec (.exchange tx) s = .next
      (failedWith { s with sent := s.sent ++ [tx], peer := s.peer.tail } .transportFailure))

/-- R112: one pass of `WAIT_UNTIL(w, e)` in either polling control state sends `w` and returns only on a response equal to `e`;
otherwise the same attempt is to be made again (no limit); a failed exchange raises `TransportFailure` and is no miss. That a row
runs one pass is the model's reading (log 21). -/
def Obligations.WaitUntilPassComparesAllBits : Prop :=
  ∀ (s : State) (w e : Word), (s.phase = .discovery ∧ s.idx = 0) ∨ (s.phase = .finalize ∧ s.idx = 1) →
    (s.answer = .ok e → exec (.waitUntil w e) s = .next { exchanged s w e with result := some e }) ∧
    (∀ rx, s.answer = .ok rx → s.pollLimit = none → rx ≠ e → exec (.waitUntil w e) s = .next (exchanged s w rx)) ∧
    (s.answer = .fail → exec (.waitUntil w e) s = .next
      (failedWith { s with sent := s.sent ++ [w], peer := s.peer.tail } .transportFailure))

/-- R101: the function rows touch no control state, no register and no link; they give the value of their rule, in every state.
The field `result` that holds it is the model's (log 1). -/
def Obligations.FunctionRowsOnlyGiveTheirValue : Prop :=
  ∀ s : State,
    (∀ acc w, exec (.crcFold acc w) s = .next { s with result := some (crcFold acc w) }) ∧
    (∀ kb : Byte, exec (.lcgSeed kb) s = .next { s with result := some (0xFFFFFFD1 + kb.setWidth 32) }) ∧
    (∀ x, exec (.lcgNext x) s = .next { s with result := some (0x6F646573 * x + 1) }) ∧
    (∀ v, exec (.negate v) s = .next { s with result := some (~~~v + 1) }) ∧
    (∀ off k, exec (.cipherMask off k) s = .next
      { s with result := some ((~~~(0x02000000 + off) + 1) ^^^ k ^^^ 0x43202F2F) }) ∧
    (∀ w off k, exec (.cipherXor w off k) s = .next
      { s with result := some (w ^^^ ((~~~(0x02000000 + off) + 1) ^^^ k ^^^ 0x43202F2F)) })

/-! ### Failures -/

/-- R224 and R231: in a reachable state an operation whose exchange fails answers exactly this next state: its own word has been
handed over (log 13), the writes before the exchange have happened and none after it, `poll_count` included, and then FAILED is
entered with `TransportFailure` and the operation's own control state (R230; `img_len` and bits as log 14 says). The history has no
record of the exchange. -/
def Obligations.FailedExchangeIsPrecise : Prop :=
  ∀ (s : State) (i : Instr), SessionInv s → opAt s.phase s.idx = some i → i ≠ .finFold → s.answer = .fail →
    ∃ t tx, exec i s = .next t ∧ sentWord s i = some tx ∧
      t = failedWith { beforeExchange i s with sent := s.sent ++ [tx], peer := s.peer.tail } .transportFailure ∧
      t.history = s.history ∧ t.pollCount = s.pollCount

/-- R233 and R31's last row: FAILED is left only by RESET or by an accepted START, which enters DISCOVERY. -/
def Obligations.FailedIsLeftOnlyByStartOrReset : Prop :=
  ∀ s t : State, s.phase = .failed → step s = .next t → t.phase ≠ .failed →
    (s.slot.reset = true ∧ t.phase = .idle) ∨
    (∃ len, s.slot.start = some len ∧ len ≤ 0x40000 ∧ t.phase = .discovery ∧ t.checksum = ⟨0xC387, true⟩ ∧
      t.payloadOffset = ⟨0, true⟩)

/-- R269: a step reaches DONE from elsewhere only as `CRC_SEND` whose exchange was answered, and it has sent the checksum. -/
def Obligations.DoneIsReachedOnlyByAnsweredCrcSend : Prop :=
  ∀ s t : State, s.phase ≠ .done → step s = .next t → t.phase = .done →
    s.phase = .finalize ∧ s.idx = 3 ∧ (∃ rx, s.answer = .ok rx) ∧ t.sent = s.sent ++ [s.checksum.bits] ∧
      t.err = s.err ∧ t.idx = 0

/-! ### Frames over all instructions -/

/-- R51: no instruction writes the image: it is the same data after, and every byte of it reads as before. -/
def Obligations.NoInstructionWritesTheImage : Prop :=
  ∀ (i : Instr) (s t : State), exec i s = .next t → t.image = s.image ∧ ∀ a, t.image.read a = s.image.read a

/-- R20, column "Written by", and R27: a datapath register changes only by the operations of its row; otherwise it is as before,
or it keeps its bits and loses its value, on entry to FAILED (R230), at DONE (R147, U12, log 25), at RESET and at START. That the
bits stay at RESET and START is the model's choice (log 2). -/
def Obligations.DatapathRegistersHaveTheirWriters : Prop :=
  ∀ (i : Instr) (s t : State), exec i s = .next t →
    (t.keystreamState = s.keystreamState ∨ i = .keyB ∨ i = .payloadWord ∨
      (sessionLost i t ∧ t.keystreamState = ⟨s.keystreamState.bits, false⟩)) ∧
    (t.checksum = s.checksum ∨ (∃ len, i = .start len) ∨ i = .payloadWord ∨ i = .finFold ∨
      (sessionLost i t ∧ t.checksum = ⟨s.checksum.bits, false⟩)) ∧
    (t.checksumFinalizer = s.checksumFinalizer ∨ i = .length ∨
      (sessionLost i t ∧ t.checksumFinalizer = ⟨s.checksumFinalizer.bits, false⟩)) ∧
    (t.payloadOffset = s.payloadOffset ∨ (∃ len, i = .start len) ∨ i = .hdrUnit ∨ i = .payloadWord ∨
      (sessionLost i t ∧ t.payloadOffset = ⟨s.payloadOffset.bits, false⟩)) ∧
    (t.hh = s.hh ∨ i = .keyB ∨ (sessionLost i t ∧ t.hh = ⟨s.hh.bits, false⟩)) ∧
    (t.imgLen = s.imgLen ∨ (∃ len, i = .start len) ∨ (i = .reset ∧ t.imgLen = ⟨s.imgLen.bits, false⟩))

/-- R28, R33, R34, R42: `err` changes only at START, RESET and on entry to FAILED, the failure record only at RESET and on entry
to FAILED, `poll_count` only at START, `FIN_FOLD`, the polls and RESET; the control state is written by commands, by failures and
by the operation of the control state, so by no function row and by no answered primitive. `POLL_LIMIT` stays (log 10). -/
def Obligations.StatusRegistersHaveTheirWriters : Prop :=
  ∀ (i : Instr) (s t : State), exec i s = .next t →
    (t.err = s.err ∨ i = .reset ∨ (∃ len, i = .start len) ∨ t.phase = .failed) ∧
    (t.failPhase = s.failPhase ∧ t.failIdx = s.failIdx ∨ i = .reset ∨ t.phase = .failed) ∧
    (t.pollCount = s.pollCount ∨ (∃ len, i = .start len) ∨ i = .finFold ∨ i = .pollDiscover ∨ i = .pollCrc ∨
      (∃ w e, i = .waitUntil w e) ∨ i = .reset) ∧
    t.pollLimit = s.pollLimit ∧
    ((t.phase = s.phase ∧ t.idx = s.idx) ∨ t.phase = .failed ∨ (∃ len, i = .start len) ∨ i = .reset ∨
      opAt s.phase s.idx = some i)

/-- R62, R69 and R12: a step performs at most one exchange: what was sent before stays sent, in order, and at most one Word is
added; a history record is added exactly for an answered one and holds the control state and that Word. That `sent` lists the
Word of a failed exchange too is the model's choice (log 13). -/
def Obligations.StepAddsAtMostOneExchange : Prop :=
  ∀ s t : State, step s = .next t →
    (t.sent = s.sent ∧ t.history = s.history ∧ t.peer = s.peer) ∨
    (∃ tx, t.sent = s.sent ++ [tx] ∧ t.peer = s.peer.tail ∧
      ((∃ rx, s.answer = .ok rx ∧ t.history = s.history ++ [(s.phase, s.idx, tx, rx)]) ∨
        (s.answer = .fail ∧ t.history = s.history ∧ t.phase = .failed)))

/-- R251: with no session nothing is sent, and what a session sends first is `0x00006202`: a step in DISCOVERY sends nothing else,
and one that goes on to RECOGNIZE has sent it. -/
def Obligations.NothingIsSentBeforeASession : Prop :=
  ∀ s t : State, step s = .next t →
    (s.busy = false → t.sent = s.sent) ∧
    (s.phase = .discovery → t.sent = s.sent ∨ t.sent = s.sent ++ [0x00006202]) ∧
    (s.phase = .discovery → t.phase = .recognize → t.sent = s.sent ++ [0x00006202])

/-! ### The successor table and the invariant -/

/-- R31: after an answered exchange the control state is the one the successor table gives (no POLL_LIMIT, no host command). -/
def Obligations.AnsweredExchangeFollowsSuccessorTable : Prop :=
  ∀ (s t : State) (i : Instr) (rx : Word), s.pollLimit = none → opAt s.phase s.idx = some i → i ≠ .finFold →
    s.answer = .ok rx → exec i s = .next t →
    (t.phase, t.idx) =
      successor (decide (t.payloadOffset.bits < ((t.imgLen.bits + 15) &&& 0xFFFFFFF0))) s.phase s.idx rx

/-- The invariant holds right after reset. -/
def Obligations.InvariantHoldsAtReset : Prop := SessionInv State.reset

/-- R45 and the facts beside it: every step keeps the invariant, whatever the peer and the host do. -/
def Obligations.StepKeepsInvariant : Prop := ∀ s t : State, SessionInv s → step s = .next t → SessionInv t

/-- R43, R105 and R240: from a state of the invariant every step answers a next state; no unwritten register is read and no
control state is refused. -/
def Obligations.InvariantStatesNeverStop : Prop := ∀ s : State, SessionInv s → ∃ t, step s = .next t ∧ SessionInv t

/-- R103: in a state of the invariant the word a step hands to the link decodes, in the control state it was sent in, to a
well-formed frame of the operation of that control state. -/
def Obligations.SentWordsDecodeInTheirControlState : Prop :=
  ∀ (s t : State) (tx : Word), SessionInv s → step s = .next t → t.sent = s.sent ++ [tx] →
    ∃ f, decode s.phase s.idx (wireBytes tx) = .ok (f, []) ∧ f.wf = true ∧ opAt s.phase s.idx = some f.instr

/-- R102: a reader of the traffic who is at the block's control state and offset, and knows `L` once the length word is sent,
is at the block's next control state after the exchange, and names the operation that was performed. -/
def Obligations.TrafficReaderFollowsTheBlock : Prop :=
  ∀ (s t : State) (c : Cursor) (i : Instr) (tx rx : Word), SessionInv s → s.pollLimit = none → opAt s.phase s.idx = some i →
    i ≠ .finFold → s.answer = .ok rx → exec i s = .next t → t.sent = s.sent ++ [tx] →
    c.phase = s.phase → c.idx = s.idx → c.off = s.payloadOffset.bits → (s.afterLength = true → c.rounded = s.rounded) →
    (∃ f, f.instr = i ∧ ∀ rest, decodeTraffic c ((tx, rx) :: rest) = .ok f :: decodeTraffic (c.next tx rx) rest) ∧
    (c.next tx rx).phase = t.phase ∧ (c.next tx rx).off = t.payloadOffset.bits ∧
    (t.afterLength = true → (c.next tx rx).rounded = t.rounded) ∧
    (c.next tx rx).idx = (if t.phase = .finalize ∧ t.idx = 0 then 1 else t.idx)

/-! ### What responses can change -/

/-- R104 and R146: where a response is discarded, two responses that differ lead to states that differ in the trace only. -/
def Obligations.DiscardedResponsesChangeOnlyTheTrace : Prop :=
  ∀ (s : State) (i : Instr) (r1 r2 : Word) (rest : List LinkResult) (t1 t2 : State),
    responseFormat i = some .ignored →
    exec i { s with peer := .ok r1 :: rest } = .next t1 → exec i { s with peer := .ok r2 :: rest } = .next t2 →
    { t1 with trace := [] } = { t2 with trace := [] }

/-- R77 format RB and R80, R83: of the responses of KEY_B and LENGTH only bits 23..16 matter. -/
def Obligations.OnlyTheCarriedByteOfAResponseMatters : Prop :=
  ∀ (s : State) (i : Instr) (r1 r2 : Word) (rest : List LinkResult) (t1 t2 : State),
    responseFormat i = some .byteCarrier → r1.extractLsb' 16 8 = r2.extractLsb' 16 8 →
    exec i { s with peer := .ok r1 :: rest } = .next t1 → exec i { s with peer := .ok r2 :: rest } = .next t2 →
    { t1 with trace := [] } = { t2 with trace := [] }

/-! ### Runs -/

/-- R133 and R202: from the first header unit, 95 answered exchanges and no host command lead to HEADER_DONE with
`payload_offset = 0xBE`; 95 words have been sent, and checksum and keystream are as before. -/
def Obligations.HeaderPhaseSendsNinetyFiveUnits : Prop :=
  ∀ (s : State) (rxs : List Word) (rest : List LinkResult), s.phase = .header → s.idx = 0 → s.host = [] →
    s.imgLen.written = true → s.payloadOffset = ⟨0, true⟩ → rxs.length = 95 → s.peer = rxs.map .ok ++ rest →
    ∃ t, stepsTo 95 s = some t ∧ t.phase = .headerDone ∧ t.idx = 0 ∧ t.payloadOffset = ⟨0xBE, true⟩ ∧
      t.sent = s.sent ++ (List.range 95).map (fun i => img16 s.image s.imgLen.bits (BitVec.ofNat 32 (2 * i))) ∧
      t.checksum = s.checksum ∧ t.keystreamState = s.keystreamState ∧ t.peer = rest

/-- R203 to R205 and R178: from the first payload word, `(L - 188) / 4` answered exchanges and no host command lead to FINALIZE
with `payload_offset = L + 2`; every word has gone out encrypted under its own offset and keystream word, and the checksum has
folded every plaintext word in order. -/
def Obligations.PayloadPhaseSendsEveryWord : Prop :=
  ∀ (s : State) (rxs : List Word) (rest : List LinkResult), SessionInv s → s.phase = .payload → s.payloadOffset.bits = 0xBE →
    s.host = [] → rxs.length = payloadWords s.rounded → s.peer = rxs.map .ok ++ rest →
    ∃ t, stepsTo rxs.length s = some t ∧ t.phase = .finalize ∧ t.idx = 0 ∧ t.payloadOffset = ⟨s.rounded + 2, true⟩ ∧
      t.keystreamState = ⟨lcgTimes rxs.length s.keystreamState.bits, true⟩ ∧
      t.checksum =
        ⟨(List.range rxs.length).foldl (fun c j => crcFold c (plainWord s.image s.imgLen.bits j)) s.checksum.bits, true⟩ ∧
      t.sent = s.sent ++ (List.range rxs.length).map (fun j =>
        cipherXor (plainWord s.image s.imgLen.bits j) (0xBE + 4 * BitVec.ofNat 32 j)
          (lcgTimes (j + 1) s.keystreamState.bits)) ∧
      t.peer = rest

/-- The whole session (R31, R102, R269): from DISCOVERY, against a peer that answers every exchange, says `0x72026202` at once
and `0x00750065` at the first CRC poll, `108 + (L - 188) / 4` steps lead to DONE; `FIN_FOLD` is the only one of them that sends
nothing, what the other responses carry does not matter for it, and the last word sent fits 16 bits. -/
def Obligations.CooperativeSessionReachesDone : Prop :=
  ∀ (s : State) (rxs : List Word) (ack last : Word) (rest : List LinkResult), SessionInv s → s.phase = .discovery →
    s.host = [] → rxs.length = 103 + payloadWords s.rounded →
    s.peer = .ok 0x72026202 :: rxs.map .ok ++ .ok 0x00750065 :: .ok ack :: .ok last :: rest →
    ∃ t, stepsTo (108 + payloadWords s.rounded) s = some t ∧ t.phase = .done ∧ t.idx = 0 ∧ t.err = .noError ∧
      t.sent.length = s.sent.length + 107 + payloadWords s.rounded ∧ (∃ w, t.sent.getLast? = some w ∧ w ≤ 0xFFFF) ∧
      t.peer = rest

/-! ### Datapath functions -/

/-- R163: the fold of any accumulator fits 16 bits, and from one that fits every intermediate value does. -/
def Obligations.ChecksumFoldFitsSixteenBits : Prop :=
  (∀ acc w : Word, crcFold acc w ≤ 0x0000FFFF) ∧
  (∀ (n : Nat) (acc w : Word), acc ≤ 0x0000FFFF → (crcIterate n (acc, w)).1 ≤ 0x0000FFFF)

/-- R164: purity, the XOR law, cancellation, linearity, zero. -/
def Obligations.ChecksumFoldLaws : Prop :=
  (∀ p q : Word × Word, p = q → crcFold p.1 p.2 = crcFold q.1 q.2) ∧
  (∀ acc w : Word, crcFold acc w = crcFold (acc ^^^ w) 0) ∧
  (∀ x : Word, crcFold x x = 0) ∧
  (∀ a b u v : Word, crcFold (a ^^^ b) (u ^^^ v) = crcFold a u ^^^ crcFold b v) ∧
  crcFold 0 0 = 0

/-- R160, R162: the fold is the first component of 32 iterations of the step, each step written out on Words. -/
def Obligations.ChecksumFoldIsThirtyTwoSteps : Prop :=
  ∀ acc w : Word, crcFold acc w =
    ((fun cd : Word × Word =>
      ((cd.1 >>> 1) ^^^ (if (cd.1 ^^^ cd.2) &&& 1 = 1 then 0x0000C37B else 0), cd.2 >>> 1))^[32] (acc, w)).1

/-- R179 law 2: no two keystream states merge, and every state is some state's successor. -/
def Obligations.KeystreamStepIsABijection : Prop := Function.Bijective lcgNext

/-- R176: the seed's two ranges; the sum wraps from `0x2F` on. -/
def Obligations.KeystreamSeedHasTwoRanges : Prop :=
  ∀ kb : Byte, (0x2F ≤ kb → lcgSeed kb = kb.setWidth 32 - 0x2F) ∧
    (kb < 0x2F → lcgSeed kb = 0xFFFFFFD1 + kb.setWidth 32 ∧ 0xFFFFFFD1 ≤ lcgSeed kb)

/-- R189: the cipher is its own inverse under a fixed offset and keystream word. -/
def Obligations.CipherIsItsOwnInverse : Prop :=
  ∀ w off k : Word, cipherXor (cipherXor w off k) off k = w

/-- R185: negation is `2^32 - v` modulo 2^32, with its corner cases. -/
def Obligations.NegateIsTwosComplement : Prop :=
  (∀ v : Word, (negate v).toNat = (2 ^ 32 - v.toNat) % 2 ^ 32) ∧ negate 0 = 0 ∧ negate 0x80000000 = 0x80000000 ∧
    negate 1 = 0xFFFFFFFF ∧ (∀ v, negate (negate v) = v) ∧ negate 0x020000BE = 0xFDFFFF42

/-! ### Operands -/

/-- R26 and R127: `L` is the least multiple of 16 at or above every legal length, and at most `0x40000`. -/
def Obligations.RoundedLengthIsNextMultipleOfSixteen : Prop :=
  ∀ len : Word, len ≤ 0x40000 →
    (roundedLength len).toNat = (len.toNat + 15) / 16 * 16 ∧ roundedLength len ≤ 0x40000 ∧
      (len.toNat % 16 = 0 → roundedLength len = len)

/-- R82: the length word for every rounded length, with the division exact and the wrap below `0x190`. -/
def Obligations.LengthWordWrapsBelowTheBias : Prop :=
  ∀ l : Word, l ≤ 0x40000 → l.toNat % 16 = 0 →
    (0x190 ≤ l → (lengthWord l).toNat = (l.toNat - 0x190) / 4 ∧ lengthWord l ≤ 0xFF9C) ∧
    (l < 0x190 → (lengthWord l).toNat = 0x40000000 - (0x190 - l.toNat) / 4) ∧
    lengthWord l <<< 2 = l - 0x190

/-- R141: the two settings of `LEN_DIV` "differ only when `L < 0x190`, and then only in bits 31..30". -/
def Obligations.LengthDivisionSettingsDifferOnlyAtTheTop : Prop :=
  ∀ l : Word, l ≤ 0x40000 → l.toNat % 16 = 0 →
    (0x190 ≤ l → lengthWordWith .signed l = lengthWordWith .unsigned l) ∧
    (l < 0x190 → lengthWordWith .signed l = lengthWordWith .unsigned l ||| 0xC0000000)

/-- R81: the handshake byte taken from `hh` is the one MB takes from the response. -/
def Obligations.HandshakeWordFromHhEqualsWordFromResponse : Prop :=
  ∀ r : Word, handshakeWord (hhOf (carriedByte r)) = (((r >>> 16) + 0xF) &&& 0xFF) ||| 0x00006400

/-- R52, R53, R57, R58: a read below `img_len` is the image's byte and at or above it the pad byte, and words are assembled
low byte first. The pad value 0x00 is the spec's own decision D6 (R53, log 16), the packing of a header unit its decision D7. -/
def Obligations.ImageReadsPadAndAssembleLowByteFirst : Prop :=
  ∀ (m : Image) (len a : Word),
    (a < len → imgRead m len a = m.read a.toNat) ∧ (len ≤ a → imgRead m len a = 0x00) ∧
    img16 m len a = (0 : BitVec 16) ++ (imgRead m len (a + 1) ++ imgRead m len a) ∧
    img32 m len a = imgRead m len (a + 3) ++ imgRead m len (a + 2) ++ imgRead m len (a + 1) ++ imgRead m len a

/-! ### Encoding -/

/-- Decode and encode agree: every well-formed frame, with its field at every value its format admits, encoded and followed by
any bytes, decodes to itself in every control state of its operation. -/
def Obligations.DecodeOfEncodeIsTheFrame : Prop :=
  ∀ (f : Frame) (p : Phase) (i : BitVec 7) (rest : List Byte), f.wf = true → opAt p i = some f.instr →
    decode p i (encode f ++ rest) = .ok (f, rest)

/-- What decodes is well formed, belongs to the control state, and encodes to the bytes it came from. -/
def Obligations.EncodeOfDecodeIsTheBytes : Prop :=
  ∀ (f : Frame) (p : Phase) (i : BitVec 7) (bytes rest : List Byte), decode p i bytes = .ok (f, rest) →
    f.wf = true ∧ opAt p i = some f.instr ∧ encode f ++ rest = bytes

/-- R75, R76, R100: words written out from the formats decode to their operations, and one word is four operations by its
control state. -/
def Obligations.WrittenOutWordsDecode : Prop :=
  let at' (p : Phase) (i : BitVec 7) (w : Word) := decode p i (wireBytes w)
  at' .discovery 0 0x00006202 = .ok (⟨.pollDiscover, 0⟩, []) ∧
  at' .recognize 0 0x00006202 = .ok (⟨.recogA, 0⟩, []) ∧
  at' .headerDone 1 0x00006202 = .ok (⟨.infoAgain, 0⟩, []) ∧
  at' .header 49 0x00006202 = .ok (⟨.hdrUnit, 0x6202⟩, []) ∧
  at' .header 0 0x00016202 = .error .wrongFixedBits ∧
  at' .handshake 0 0x0000640E = .ok (⟨.handshake, 0x0E⟩, []) ∧
  at' .length 0 0x3FFFFFCC = .ok (⟨.length, 0x3FFFFFCC⟩, []) ∧
  at' .payload 0 0x9D43EC24 = .ok (⟨.payloadWord, 0x9D43EC24⟩, []) ∧
  at' .finalize 3 0x00004BD5 = .ok (⟨.crcSend, 0x4BD5⟩, []) ∧
  at' .finalize 0 0x00000065 = .error .noLinkWord ∧
  at' .idle 0 0x00006202 = .error .noOperation

/-- R29, R33, R105: the codes of the phases and error kinds are the tables' numbers, they read back, and the codes no rule writes
are refused. R40: the status port shows `phase`, `idx`, `err`, `fail_phase` and `fail_idx` in those codes; what it shows of a
failure record that is unwritten are the model's storage bits (log 3). -/
def Obligations.StatusCodesReadBack : Prop :=
  ([Phase.idle, .discovery, .recognize, .header, .headerDone, .keyExchange, .handshake, .length, .payload, .finalize, .done,
      .failed].map Phase.code = [0, 1, 2, 3, 4, 5, 6, 7, 8, 9, 10, 11]) ∧
  ([ErrKind.noError, .invalidImage, .peerUnresponsive, .transportFailure, .aborted].map ErrKind.code = [0, 1, 2, 3, 4]) ∧
  (∀ s : State, s.status.phase = s.phase.code ∧ s.status.idx = s.idx ∧ s.status.err = s.err.code ∧
    s.status.failPhase = s.failPhase.bits.code ∧ s.status.failIdx = s.failIdx.bits) ∧
  (∀ p : Phase, Phase.ofCode p.code = some p) ∧ (∀ c : BitVec 4, 12 ≤ c → Phase.ofCode c = none) ∧
  (∀ e : ErrKind, ErrKind.ofCode e.code = some e) ∧ (∀ c : BitVec 3, 5 ≤ c → ErrKind.ofCode c = none)

/-- R32: exactly one of `idle`, `busy`, `done`, `failed` holds at any time. -/
def Obligations.ExactlyOneStatusPredicateHolds : Prop :=
  ∀ s : State, ([s.idle, s.busy, s.done, s.failed].filter (· == true)).length = 1
end

