-- ==== Sys2Proof/Laws/Memory.lean ====
section
/-! SUPPORT. The laws of the sparse image: a write is read back, leaves every other address alone, and keeps canonical form;
so does laying out a list of bytes. -/

namespace Sys2Proof.Machine

theorem Image.wfAbove_mono {lo lo' : Nat} (h : lo' ≤ lo) {m : Image} (hm : Image.wfAbove lo m = true) :
    Image.wfAbove lo' m = true := by
  cases m with
  | nil => rfl
  | cons c rest =>
    simp only [Image.wfAbove, Bool.and_eq_true, decide_eq_true_eq] at hm ⊢
    exact ⟨⟨by omega, hm.1.2⟩, hm.2⟩

/-- Below the first listed address every byte is the unlisted one. -/
theorem Image.read_below {lo a : Nat} (h : a < lo) {m : Image} (hm : Image.wfAbove lo m = true) :
    Image.read m a = unlistedByte := by
  induction m generalizing lo with
  | nil => rfl
  | cons c rest ih =>
    simp only [Image.wfAbove, Bool.and_eq_true, decide_eq_true_eq] at hm
    have hne : a ≠ c.1 := by omega
    simp [Image.read, hne, ih (lo := c.1 + 1) (by omega) hm.2]

theorem Image.write_wfAbove {lo a : Nat} (v : Byte) {m : Image} (hm : Image.wfAbove lo m = true) (ha : lo ≤ a) :
    Image.wfAbove lo (Image.write m a v) = true := by
  induction m generalizing lo with
  | nil =>
    unfold Image.write
    split
    · rfl
    · simp_all [Image.wfAbove]
  | cons c rest ih =>
    obtain ⟨b, u⟩ := c
    simp only [Image.wfAbove, Bool.and_eq_true, decide_eq_true_eq] at hm
    unfold Image.write
    split
    · split
      · simp [Image.wfAbove, hm.1.1, hm.1.2, hm.2]
      · simp [Image.wfAbove, hm.1.2, hm.2, *]
    · split
      · split
        · exact Image.wfAbove_mono (by omega) hm.2
        · simp_all [Image.wfAbove]
      · have := ih (lo := b + 1) hm.2 (by omega)
        simp [Image.wfAbove, hm.1.1, hm.1.2, this]

/-- A write keeps canonical form. -/
theorem Image.write_wf {m : Image} (hm : m.wf = true) (a : Nat) (v : Byte) : (Image.write m a v).wf = true :=
  Image.write_wfAbove v hm (Nat.zero_le a)

theorem Image.read_write_aux {lo : Nat} (a b : Nat) (v : Byte) {m : Image} (hm : Image.wfAbove lo m = true) :
    Image.read (Image.write m a v) b = if b = a then v else Image.read m b := by
  induction m generalizing lo with
  | nil =>
    by_cases hv : v = unlistedByte <;> by_cases hb : b = a <;> simp [Image.write, Image.read, hv, hb]
  | cons c rest ih =>
    obtain ⟨d, u⟩ := c
    simp only [Image.wfAbove, Bool.and_eq_true, decide_eq_true_eq] at hm
    have hbelow : ∀ x, x ≤ d → Image.read rest x = unlistedByte := fun x hx =>
      Image.read_below (lo := d + 1) (by omega) hm.2
    rcases Nat.lt_trichotomy a d with h | h | h
    · have hda : ¬a = d := by omega
      by_cases hv : v = unlistedByte
      · by_cases hb : b = a
        · subst hb; simp [Image.write, Image.read, h, hv, hda, hbelow b (by omega)]
        · simp [Image.write, h, hv, hb]
      · by_cases hb : b = a <;> simp [Image.write, Image.read, h, hv, hb]
    · subst h
      by_cases hv : v = unlistedByte
      · by_cases hb : b = a
        · subst hb; simp [Image.write, hv, hbelow b (Nat.le_refl b)]
        · simp [Image.write, Image.read, hv, hb]
      · by_cases hb : b = a <;> simp [Image.write, Image.read, hv, hb]
    · have h1 : ¬a < d := by omega
      have h2 : ¬a = d := by omega
      simp only [Image.write, h1, h2, if_false, Image.read, ih hm.2]
      by_cases hb : b = d
      · have : ¬b = a := by omega
        simp [hb, Ne.symm h2]
      · simp [hb]

/-- A read after a write: the written byte at its address, what was there before everywhere else. -/
theorem Image.read_write {m : Image} (hm : m.wf = true) (a b : Nat) (v : Byte) :
    Image.read (Image.write m a v) b = if b = a then v else Image.read m b := Image.read_write_aux a b v hm

/-- Laying out a list of bytes keeps canonical form. -/
theorem Image.load_wf {m : Image} (hm : m.wf = true) (a : Nat) (bytes : List Byte) : (Image.load m a bytes).wf = true := by
  induction bytes generalizing m a with
  | nil => exact hm
  | cons v rest ih => exact ih (Image.write_wf hm a v) (a + 1)

end Sys2Proof.Machine
end

