-- ==== Sys2Proof/Laws/State.lean ====
section
/-! SUPPORT. One simp lemma per field per update of State: every later proof reads a field of an updated state by these and
unfolds no record update. -/

namespace Sys2Proof.Machine

@[simp] theorem Reg.bits_held {α : Type} (v : α) : (Reg.held v).bits = v := rfl
@[simp] theorem Reg.written_held {α : Type} (v : α) : (Reg.held v).written = true := rfl
@[simp] theorem Reg.bits_discard {α : Type} (r : Reg α) : r.discard.bits = r.bits := rfl
@[simp] theorem Reg.written_discard {α : Type} (r : Reg α) : r.discard.written = false := rfl
@[simp] theorem Reg.bits_fresh {α : Type} (v : α) : (Reg.fresh v).bits = v := rfl
@[simp] theorem Reg.written_fresh {α : Type} (v : α) : (Reg.fresh v).written = false := rfl

/-! ### The write of the control state (R28) -/

@[simp] theorem State.phase_goto (s : State) (p : Phase) (i : BitVec 7) : (s.goto p i).phase = p := rfl
@[simp] theorem State.idx_goto (s : State) (p : Phase) (i : BitVec 7) : (s.goto p i).idx = i := rfl
@[simp] theorem State.sent_goto (s : State) (p : Phase) (i : BitVec 7) : (s.goto p i).sent = s.sent := rfl
@[simp] theorem State.peer_goto (s : State) (p : Phase) (i : BitVec 7) : (s.goto p i).peer = s.peer := rfl
@[simp] theorem State.trace_goto (s : State) (p : Phase) (i : BitVec 7) :
    (s.goto p i).trace = if p = s.phase then s.trace else s.trace ++ [.phaseChange s.phase p] := rfl
@[simp] theorem State.err_goto (s : State) (p : Phase) (i : BitVec 7) : (s.goto p i).err = s.err := rfl
@[simp] theorem State.failPhase_goto (s : State) (p : Phase) (i : BitVec 7) : (s.goto p i).failPhase = s.failPhase := rfl
@[simp] theorem State.failIdx_goto (s : State) (p : Phase) (i : BitVec 7) : (s.goto p i).failIdx = s.failIdx := rfl
@[simp] theorem State.keystreamState_goto (s : State) (p : Phase) (i : BitVec 7) :
    (s.goto p i).keystreamState = s.keystreamState := rfl
@[simp] theorem State.checksum_goto (s : State) (p : Phase) (i : BitVec 7) : (s.goto p i).checksum = s.checksum := rfl
@[simp] theorem State.checksumFinalizer_goto (s : State) (p : Phase) (i : BitVec 7) :
    (s.goto p i).checksumFinalizer = s.checksumFinalizer := rfl
@[simp] theorem State.payloadOffset_goto (s : State) (p : Phase) (i : BitVec 7) :
    (s.goto p i).payloadOffset = s.payloadOffset := rfl
@[simp] theorem State.hh_goto (s : State) (p : Phase) (i : BitVec 7) : (s.goto p i).hh = s.hh := rfl
@[simp] theorem State.imgLen_goto (s : State) (p : Phase) (i : BitVec 7) : (s.goto p i).imgLen = s.imgLen := rfl
@[simp] theorem State.pollCount_goto (s : State) (p : Phase) (i : BitVec 7) : (s.goto p i).pollCount = s.pollCount := rfl
@[simp] theorem State.pollLimit_goto (s : State) (p : Phase) (i : BitVec 7) : (s.goto p i).pollLimit = s.pollLimit := rfl
@[simp] theorem State.image_goto (s : State) (p : Phase) (i : BitVec 7) : (s.goto p i).image = s.image := rfl
@[simp] theorem State.host_goto (s : State) (p : Phase) (i : BitVec 7) : (s.goto p i).host = s.host := rfl
@[simp] theorem State.result_goto (s : State) (p : Phase) (i : BitVec 7) : (s.goto p i).result = s.result := rfl

/-! ### The loss of the session registers (R230) -/

@[simp] theorem State.phase_discardSession (s : State) : s.discardSession.phase = s.phase := rfl
@[simp] theorem State.idx_discardSession (s : State) : s.discardSession.idx = s.idx := rfl
@[simp] theorem State.sent_discardSession (s : State) : s.discardSession.sent = s.sent := rfl
@[simp] theorem State.peer_discardSession (s : State) : s.discardSession.peer = s.peer := rfl
@[simp] theorem State.trace_discardSession (s : State) : s.discardSession.trace = s.trace := rfl
@[simp] theorem State.err_discardSession (s : State) : s.discardSession.err = s.err := rfl
@[simp] theorem State.failPhase_discardSession (s : State) : s.discardSession.failPhase = s.failPhase := rfl
@[simp] theorem State.failIdx_discardSession (s : State) : s.discardSession.failIdx = s.failIdx := rfl
@[simp] theorem State.keystreamState_discardSession (s : State) :
    s.discardSession.keystreamState = s.keystreamState.discard := rfl
@[simp] theorem State.checksum_discardSession (s : State) : s.discardSession.checksum = s.checksum.discard := rfl
@[simp] theorem State.checksumFinalizer_discardSession (s : State) :
    s.discardSession.checksumFinalizer = s.checksumFinalizer.discard := rfl
@[simp] theorem State.payloadOffset_discardSession (s : State) :
    s.discardSession.payloadOffset = s.payloadOffset.discard := rfl
@[simp] theorem State.hh_discardSession (s : State) : s.discardSession.hh = s.hh.discard := rfl
@[simp] theorem State.imgLen_discardSession (s : State) : s.discardSession.imgLen = s.imgLen := rfl
@[simp] theorem State.pollCount_discardSession (s : State) : s.discardSession.pollCount = s.pollCount := rfl
@[simp] theorem State.pollLimit_discardSession (s : State) : s.discardSession.pollLimit = s.pollLimit := rfl
@[simp] theorem State.image_discardSession (s : State) : s.discardSession.image = s.image := rfl
@[simp] theorem State.host_discardSession (s : State) : s.discardSession.host = s.host := rfl
@[simp] theorem State.result_discardSession (s : State) : s.discardSession.result = s.result := rfl

/-! ### Failure entry (R230) -/

@[simp] theorem State.phase_enterFailed (s : State) (k : ErrKind) (p : Phase) (i : BitVec 7) :
    (s.enterFailed k p i).phase = .failed := rfl
@[simp] theorem State.idx_enterFailed (s : State) (k : ErrKind) (p : Phase) (i : BitVec 7) :
    (s.enterFailed k p i).idx = 0 := rfl
@[simp] theorem State.sent_enterFailed (s : State) (k : ErrKind) (p : Phase) (i : BitVec 7) :
    (s.enterFailed k p i).sent = s.sent := rfl
@[simp] theorem State.peer_enterFailed (s : State) (k : ErrKind) (p : Phase) (i : BitVec 7) :
    (s.enterFailed k p i).peer = s.peer := rfl
@[simp] theorem State.trace_enterFailed (s : State) (k : ErrKind) (p : Phase) (i : BitVec 7) :
    (s.enterFailed k p i).trace = if .failed = s.phase then s.trace else s.trace ++ [.phaseChange s.phase .failed] := rfl
@[simp] theorem State.err_enterFailed (s : State) (k : ErrKind) (p : Phase) (i : BitVec 7) :
    (s.enterFailed k p i).err = k := rfl
@[simp] theorem State.failPhase_enterFailed (s : State) (k : ErrKind) (p : Phase) (i : BitVec 7) :
    (s.enterFailed k p i).failPhase = .held p := rfl
@[simp] theorem State.failIdx_enterFailed (s : State) (k : ErrKind) (p : Phase) (i : BitVec 7) :
    (s.enterFailed k p i).failIdx = .held i := rfl
@[simp] theorem State.keystreamState_enterFailed (s : State) (k : ErrKind) (p : Phase) (i : BitVec 7) :
    (s.enterFailed k p i).keystreamState = s.keystreamState.discard := rfl
@[simp] theorem State.checksum_enterFailed (s : State) (k : ErrKind) (p : Phase) (i : BitVec 7) :
    (s.enterFailed k p i).checksum = s.checksum.discard := rfl
@[simp] theorem State.checksumFinalizer_enterFailed (s : State) (k : ErrKind) (p : Phase) (i : BitVec 7) :
    (s.enterFailed k p i).checksumFinalizer = s.checksumFinalizer.discard := rfl
@[simp] theorem State.payloadOffset_enterFailed (s : State) (k : ErrKind) (p : Phase) (i : BitVec 7) :
    (s.enterFailed k p i).payloadOffset = s.payloadOffset.discard := rfl
@[simp] theorem State.hh_enterFailed (s : State) (k : ErrKind) (p : Phase) (i : BitVec 7) :
    (s.enterFailed k p i).hh = s.hh.discard := rfl
@[simp] theorem State.imgLen_enterFailed (s : State) (k : ErrKind) (p : Phase) (i : BitVec 7) :
    (s.enterFailed k p i).imgLen = s.imgLen := rfl
@[simp] theorem State.pollCount_enterFailed (s : State) (k : ErrKind) (p : Phase) (i : BitVec 7) :
    (s.enterFailed k p i).pollCount = s.pollCount := rfl
@[simp] theorem State.pollLimit_enterFailed (s : State) (k : ErrKind) (p : Phase) (i : BitVec 7) :
    (s.enterFailed k p i).pollLimit = s.pollLimit := rfl
@[simp] theorem State.image_enterFailed (s : State) (k : ErrKind) (p : Phase) (i : BitVec 7) :
    (s.enterFailed k p i).image = s.image := rfl
@[simp] theorem State.host_enterFailed (s : State) (k : ErrKind) (p : Phase) (i : BitVec 7) :
    (s.enterFailed k p i).host = s.host := rfl
@[simp] theorem State.result_enterFailed (s : State) (k : ErrKind) (p : Phase) (i : BitVec 7) :
    (s.enterFailed k p i).result = s.result := rfl

/-! ### `raise` (R230) -/

@[simp] theorem State.phase_raise (s : State) (k : ErrKind) : (s.raise k).phase = .failed := rfl
@[simp] theorem State.idx_raise (s : State) (k : ErrKind) : (s.raise k).idx = 0 := rfl
@[simp] theorem State.sent_raise (s : State) (k : ErrKind) : (s.raise k).sent = s.sent := rfl
@[simp] theorem State.peer_raise (s : State) (k : ErrKind) : (s.raise k).peer = s.peer := rfl
@[simp] theorem State.trace_raise (s : State) (k : ErrKind) :
    (s.raise k).trace = if .failed = s.phase then s.trace else s.trace ++ [.phaseChange s.phase .failed] := rfl
@[simp] theorem State.err_raise (s : State) (k : ErrKind) : (s.raise k).err = k := rfl
@[simp] theorem State.failPhase_raise (s : State) (k : ErrKind) : (s.raise k).failPhase = .held s.phase := rfl
@[simp] theorem State.failIdx_raise (s : State) (k : ErrKind) : (s.raise k).failIdx = .held s.idx := rfl
@[simp] theorem State.keystreamState_raise (s : State) (k : ErrKind) :
    (s.raise k).keystreamState = s.keystreamState.discard := rfl
@[simp] theorem State.checksum_raise (s : State) (k : ErrKind) : (s.raise k).checksum = s.checksum.discard := rfl
@[simp] theorem State.checksumFinalizer_raise (s : State) (k : ErrKind) :
    (s.raise k).checksumFinalizer = s.checksumFinalizer.discard := rfl
@[simp] theorem State.payloadOffset_raise (s : State) (k : ErrKind) :
    (s.raise k).payloadOffset = s.payloadOffset.discard := rfl
@[simp] theorem State.hh_raise (s : State) (k : ErrKind) : (s.raise k).hh = s.hh.discard := rfl
@[simp] theorem State.imgLen_raise (s : State) (k : ErrKind) : (s.raise k).imgLen = s.imgLen := rfl
@[simp] theorem State.pollCount_raise (s : State) (k : ErrKind) : (s.raise k).pollCount = s.pollCount := rfl
@[simp] theorem State.pollLimit_raise (s : State) (k : ErrKind) : (s.raise k).pollLimit = s.pollLimit := rfl
@[simp] theorem State.image_raise (s : State) (k : ErrKind) : (s.raise k).image = s.image := rfl
@[simp] theorem State.host_raise (s : State) (k : ErrKind) : (s.raise k).host = s.host := rfl
@[simp] theorem State.result_raise (s : State) (k : ErrKind) : (s.raise k).result = s.result := rfl

/-! ### RESET (R250) -/

@[simp] theorem State.phase_resetBlock (s : State) : s.resetBlock.phase = .idle := rfl
@[simp] theorem State.idx_resetBlock (s : State) : s.resetBlock.idx = 0 := rfl
@[simp] theorem State.sent_resetBlock (s : State) : s.resetBlock.sent = s.sent := rfl
@[simp] theorem State.peer_resetBlock (s : State) : s.resetBlock.peer = s.peer := rfl
@[simp] theorem State.trace_resetBlock (s : State) :
    s.resetBlock.trace = if .idle = s.phase then s.trace else s.trace ++ [.phaseChange s.phase .idle] := rfl
@[simp] theorem State.err_resetBlock (s : State) : s.resetBlock.err = .noError := rfl
@[simp] theorem State.failPhase_resetBlock (s : State) : s.resetBlock.failPhase = s.failPhase.discard := rfl
@[simp] theorem State.failIdx_resetBlock (s : State) : s.resetBlock.failIdx = s.failIdx.discard := rfl
@[simp] theorem State.keystreamState_resetBlock (s : State) : s.resetBlock.keystreamState = s.keystreamState.discard := rfl
@[simp] theorem State.checksum_resetBlock (s : State) : s.resetBlock.checksum = s.checksum.discard := rfl
@[simp] theorem State.checksumFinalizer_resetBlock (s : State) :
    s.resetBlock.checksumFinalizer = s.checksumFinalizer.discard := rfl
@[simp] theorem State.payloadOffset_resetBlock (s : State) : s.resetBlock.payloadOffset = s.payloadOffset.discard := rfl
@[simp] theorem State.hh_resetBlock (s : State) : s.resetBlock.hh = s.hh.discard := rfl
@[simp] theorem State.imgLen_resetBlock (s : State) : s.resetBlock.imgLen = s.imgLen.discard := rfl
@[simp] theorem State.pollCount_resetBlock (s : State) : s.resetBlock.pollCount = s.pollCount.discard := rfl
@[simp] theorem State.pollLimit_resetBlock (s : State) : s.resetBlock.pollLimit = s.pollLimit := rfl
@[simp] theorem State.image_resetBlock (s : State) : s.resetBlock.image = s.image := rfl
@[simp] theorem State.host_resetBlock (s : State) : s.resetBlock.host = s.host := rfl
@[simp] theorem State.result_resetBlock (s : State) : s.resetBlock.result = s.result := rfl

/-! ### The request at the link port (R38) -/

@[simp] theorem State.phase_handOver (s : State) (tx : Word) : (s.handOver tx).phase = s.phase := rfl
@[simp] theorem State.idx_handOver (s : State) (tx : Word) : (s.handOver tx).idx = s.idx := rfl
@[simp] theorem State.sent_handOver (s : State) (tx : Word) : (s.handOver tx).sent = s.sent ++ [tx] := rfl
@[simp] theorem State.peer_handOver (s : State) (tx : Word) : (s.handOver tx).peer = s.peer.tail := rfl
@[simp] theorem State.trace_handOver (s : State) (tx : Word) : (s.handOver tx).trace = s.trace := rfl
@[simp] theorem State.err_handOver (s : State) (tx : Word) : (s.handOver tx).err = s.err := rfl
@[simp] theorem State.failPhase_handOver (s : State) (tx : Word) : (s.handOver tx).failPhase = s.failPhase := rfl
@[simp] theorem State.failIdx_handOver (s : State) (tx : Word) : (s.handOver tx).failIdx = s.failIdx := rfl
@[simp] theorem State.keystreamState_handOver (s : State) (tx : Word) :
    (s.handOver tx).keystreamState = s.keystreamState := rfl
@[simp] theorem State.checksum_handOver (s : State) (tx : Word) : (s.handOver tx).checksum = s.checksum := rfl
@[simp] theorem State.checksumFinalizer_handOver (s : State) (tx : Word) :
    (s.handOver tx).checksumFinalizer = s.checksumFinalizer := rfl
@[simp] theorem State.payloadOffset_handOver (s : State) (tx : Word) : (s.handOver tx).payloadOffset = s.payloadOffset := rfl
@[simp] theorem State.hh_handOver (s : State) (tx : Word) : (s.handOver tx).hh = s.hh := rfl
@[simp] theorem State.imgLen_handOver (s : State) (tx : Word) : (s.handOver tx).imgLen = s.imgLen := rfl
@[simp] theorem State.pollCount_handOver (s : State) (tx : Word) : (s.handOver tx).pollCount = s.pollCount := rfl
@[simp] theorem State.pollLimit_handOver (s : State) (tx : Word) : (s.handOver tx).pollLimit = s.pollLimit := rfl
@[simp] theorem State.image_handOver (s : State) (tx : Word) : (s.handOver tx).image = s.image := rfl
@[simp] theorem State.host_handOver (s : State) (tx : Word) : (s.handOver tx).host = s.host := rfl
@[simp] theorem State.result_handOver (s : State) (tx : Word) : (s.handOver tx).result = s.result := rfl

/-! ### The trace record of an exchange (R110) -/

@[simp] theorem State.phase_traceExchange (s : State) (tx rx : Word) : (s.traceExchange tx rx).phase = s.phase := rfl
@[simp] theorem State.idx_traceExchange (s : State) (tx rx : Word) : (s.traceExchange tx rx).idx = s.idx := rfl
@[simp] theorem State.sent_traceExchange (s : State) (tx rx : Word) : (s.traceExchange tx rx).sent = s.sent := rfl
@[simp] theorem State.peer_traceExchange (s : State) (tx rx : Word) : (s.traceExchange tx rx).peer = s.peer := rfl
@[simp] theorem State.trace_traceExchange (s : State) (tx rx : Word) :
    (s.traceExchange tx rx).trace = s.trace ++ [.exchange s.phase s.idx tx rx] := rfl
@[simp] theorem State.err_traceExchange (s : State) (tx rx : Word) : (s.traceExchange tx rx).err = s.err := rfl
@[simp] theorem State.failPhase_traceExchange (s : State) (tx rx : Word) :
    (s.traceExchange tx rx).failPhase = s.failPhase := rfl
@[simp] theorem State.failIdx_traceExchange (s : State) (tx rx : Word) : (s.traceExchange tx rx).failIdx = s.failIdx := rfl
@[simp] theorem State.keystreamState_traceExchange (s : State) (tx rx : Word) :
    (s.traceExchange tx rx).keystreamState = s.keystreamState := rfl
@[simp] theorem State.checksum_traceExchange (s : State) (tx rx : Word) :
    (s.traceExchange tx rx).checksum = s.checksum := rfl
@[simp] theorem State.checksumFinalizer_traceExchange (s : State) (tx rx : Word) :
    (s.traceExchange tx rx).checksumFinalizer = s.checksumFinalizer := rfl
@[simp] theorem State.payloadOffset_traceExchange (s : State) (tx rx : Word) :
    (s.traceExchange tx rx).payloadOffset = s.payloadOffset := rfl
@[simp] theorem State.hh_traceExchange (s : State) (tx rx : Word) : (s.traceExchange tx rx).hh = s.hh := rfl
@[simp] theorem State.imgLen_traceExchange (s : State) (tx rx : Word) : (s.traceExchange tx rx).imgLen = s.imgLen := rfl
@[simp] theorem State.pollCount_traceExchange (s : State) (tx rx : Word) :
    (s.traceExchange tx rx).pollCount = s.pollCount := rfl
@[simp] theorem State.pollLimit_traceExchange (s : State) (tx rx : Word) :
    (s.traceExchange tx rx).pollLimit = s.pollLimit := rfl
@[simp] theorem State.image_traceExchange (s : State) (tx rx : Word) : (s.traceExchange tx rx).image = s.image := rfl
@[simp] theorem State.host_traceExchange (s : State) (tx rx : Word) : (s.traceExchange tx rx).host = s.host := rfl
@[simp] theorem State.result_traceExchange (s : State) (tx rx : Word) : (s.traceExchange tx rx).result = s.result := rfl

/-! ### The value of a function row (R101) -/

@[simp] theorem State.phase_yield (s : State) (v : Word) : (s.yield v).phase = s.phase := rfl
@[simp] theorem State.idx_yield (s : State) (v : Word) : (s.yield v).idx = s.idx := rfl
@[simp] theorem State.sent_yield (s : State) (v : Word) : (s.yield v).sent = s.sent := rfl
@[simp] theorem State.peer_yield (s : State) (v : Word) : (s.yield v).peer = s.peer := rfl
@[simp] theorem State.trace_yield (s : State) (v : Word) : (s.yield v).trace = s.trace := rfl
@[simp] theorem State.err_yield (s : State) (v : Word) : (s.yield v).err = s.err := rfl
@[simp] theorem State.failPhase_yield (s : State) (v : Word) : (s.yield v).failPhase = s.failPhase := rfl
@[simp] theorem State.failIdx_yield (s : State) (v : Word) : (s.yield v).failIdx = s.failIdx := rfl
@[simp] theorem State.keystreamState_yield (s : State) (v : Word) : (s.yield v).keystreamState = s.keystreamState := rfl
@[simp] theorem State.checksum_yield (s : State) (v : Word) : (s.yield v).checksum = s.checksum := rfl
@[simp] theorem State.checksumFinalizer_yield (s : State) (v : Word) :
    (s.yield v).checksumFinalizer = s.checksumFinalizer := rfl
@[simp] theorem State.payloadOffset_yield (s : State) (v : Word) : (s.yield v).payloadOffset = s.payloadOffset := rfl
@[simp] theorem State.hh_yield (s : State) (v : Word) : (s.yield v).hh = s.hh := rfl
@[simp] theorem State.imgLen_yield (s : State) (v : Word) : (s.yield v).imgLen = s.imgLen := rfl
@[simp] theorem State.pollCount_yield (s : State) (v : Word) : (s.yield v).pollCount = s.pollCount := rfl
@[simp] theorem State.pollLimit_yield (s : State) (v : Word) : (s.yield v).pollLimit = s.pollLimit := rfl
@[simp] theorem State.image_yield (s : State) (v : Word) : (s.yield v).image = s.image := rfl
@[simp] theorem State.host_yield (s : State) (v : Word) : (s.yield v).host = s.host := rfl
@[simp] theorem State.result_yield (s : State) (v : Word) : (s.yield v).result = some v := rfl

/-! ### What `KEY_B` latches (R138) -/

@[simp] theorem State.phase_latchKey (s : State) (k h : Word) : (s.latchKey k h).phase = s.phase := rfl
@[simp] theorem State.idx_latchKey (s : State) (k h : Word) : (s.latchKey k h).idx = s.idx := rfl
@[simp] theorem State.sent_latchKey (s : State) (k h : Word) : (s.latchKey k h).sent = s.sent := rfl
@[simp] theorem State.peer_latchKey (s : State) (k h : Word) : (s.latchKey k h).peer = s.peer := rfl
@[simp] theorem State.trace_latchKey (s : State) (k h : Word) : (s.latchKey k h).trace = s.trace := rfl
@[simp] theorem State.err_latchKey (s : State) (k h : Word) : (s.latchKey k h).err = s.err := rfl
@[simp] theorem State.failPhase_latchKey (s : State) (k h : Word) : (s.latchKey k h).failPhase = s.failPhase := rfl
@[simp] theorem State.failIdx_latchKey (s : State) (k h : Word) : (s.latchKey k h).failIdx = s.failIdx := rfl
@[simp] theorem State.keystreamState_latchKey (s : State) (k h : Word) : (s.latchKey k h).keystreamState = .held k := rfl
@[simp] theorem State.checksum_latchKey (s : State) (k h : Word) : (s.latchKey k h).checksum = s.checksum := rfl
@[simp] theorem State.checksumFinalizer_latchKey (s : State) (k h : Word) :
    (s.latchKey k h).checksumFinalizer = s.checksumFinalizer := rfl
@[simp] theorem State.payloadOffset_latchKey (s : State) (k h : Word) :
    (s.latchKey k h).payloadOffset = s.payloadOffset := rfl
@[simp] theorem State.hh_latchKey (s : State) (k h : Word) : (s.latchKey k h).hh = .held h := rfl
@[simp] theorem State.imgLen_latchKey (s : State) (k h : Word) : (s.latchKey k h).imgLen = s.imgLen := rfl
@[simp] theorem State.pollCount_latchKey (s : State) (k h : Word) : (s.latchKey k h).pollCount = s.pollCount := rfl
@[simp] theorem State.pollLimit_latchKey (s : State) (k h : Word) : (s.latchKey k h).pollLimit = s.pollLimit := rfl
@[simp] theorem State.image_latchKey (s : State) (k h : Word) : (s.latchKey k h).image = s.image := rfl
@[simp] theorem State.host_latchKey (s : State) (k h : Word) : (s.latchKey k h).host = s.host := rfl
@[simp] theorem State.result_latchKey (s : State) (k h : Word) : (s.latchKey k h).result = s.result := rfl

/-! ### What `LENGTH` latches (R143) -/

@[simp] theorem State.phase_latchFinalizer (s : State) (v : Word) : (s.latchFinalizer v).phase = s.phase := rfl
@[simp] theorem State.idx_latchFinalizer (s : State) (v : Word) : (s.latchFinalizer v).idx = s.idx := rfl
@[simp] theorem State.sent_latchFinalizer (s : State) (v : Word) : (s.latchFinalizer v).sent = s.sent := rfl
@[simp] theorem State.peer_latchFinalizer (s : State) (v : Word) : (s.latchFinalizer v).peer = s.peer := rfl
@[simp] theorem State.trace_latchFinalizer (s : State) (v : Word) : (s.latchFinalizer v).trace = s.trace := rfl
@[simp] theorem State.err_latchFinalizer (s : State) (v : Word) : (s.latchFinalizer v).err = s.err := rfl
@[simp] theorem State.failPhase_latchFinalizer (s : State) (v : Word) : (s.latchFinalizer v).failPhase = s.failPhase := rfl
@[simp] theorem State.failIdx_latchFinalizer (s : State) (v : Word) : (s.latchFinalizer v).failIdx = s.failIdx := rfl
@[simp] theorem State.keystreamState_latchFinalizer (s : State) (v : Word) :
    (s.latchFinalizer v).keystreamState = s.keystreamState := rfl
@[simp] theorem State.checksum_latchFinalizer (s : State) (v : Word) : (s.latchFinalizer v).checksum = s.checksum := rfl
@[simp] theorem State.checksumFinalizer_latchFinalizer (s : State) (v : Word) :
    (s.latchFinalizer v).checksumFinalizer = .held v := rfl
@[simp] theorem State.payloadOffset_latchFinalizer (s : State) (v : Word) :
    (s.latchFinalizer v).payloadOffset = s.payloadOffset := rfl
@[simp] theorem State.hh_latchFinalizer (s : State) (v : Word) : (s.latchFinalizer v).hh = s.hh := rfl
@[simp] theorem State.imgLen_latchFinalizer (s : State) (v : Word) : (s.latchFinalizer v).imgLen = s.imgLen := rfl
@[simp] theorem State.pollCount_latchFinalizer (s : State) (v : Word) : (s.latchFinalizer v).pollCount = s.pollCount := rfl
@[simp] theorem State.pollLimit_latchFinalizer (s : State) (v : Word) : (s.latchFinalizer v).pollLimit = s.pollLimit := rfl
@[simp] theorem State.image_latchFinalizer (s : State) (v : Word) : (s.latchFinalizer v).image = s.image := rfl
@[simp] theorem State.host_latchFinalizer (s : State) (v : Word) : (s.latchFinalizer v).host = s.host := rfl
@[simp] theorem State.result_latchFinalizer (s : State) (v : Word) : (s.latchFinalizer v).result = s.result := rfl

/-! ### The write of `payload_offset` (R24) -/

@[simp] theorem State.phase_setOffset (s : State) (off : Word) : (s.setOffset off).phase = s.phase := rfl
@[simp] theorem State.idx_setOffset (s : State) (off : Word) : (s.setOffset off).idx = s.idx := rfl
@[simp] theorem State.sent_setOffset (s : State) (off : Word) : (s.setOffset off).sent = s.sent := rfl
@[simp] theorem State.peer_setOffset (s : State) (off : Word) : (s.setOffset off).peer = s.peer := rfl
@[simp] theorem State.trace_setOffset (s : State) (off : Word) : (s.setOffset off).trace = s.trace := rfl
@[simp] theorem State.err_setOffset (s : State) (off : Word) : (s.setOffset off).err = s.err := rfl
@[simp] theorem State.failPhase_setOffset (s : State) (off : Word) : (s.setOffset off).failPhase = s.failPhase := rfl
@[simp] theorem State.failIdx_setOffset (s : State) (off : Word) : (s.setOffset off).failIdx = s.failIdx := rfl
@[simp] theorem State.keystreamState_setOffset (s : State) (off : Word) :
    (s.setOffset off).keystreamState = s.keystreamState := rfl
@[simp] theorem State.checksum_setOffset (s : State) (off : Word) : (s.setOffset off).checksum = s.checksum := rfl
@[simp] theorem State.checksumFinalizer_setOffset (s : State) (off : Word) :
    (s.setOffset off).checksumFinalizer = s.checksumFinalizer := rfl
@[simp] theorem State.payloadOffset_setOffset (s : State) (off : Word) : (s.setOffset off).payloadOffset = .held off := rfl
@[simp] theorem State.hh_setOffset (s : State) (off : Word) : (s.setOffset off).hh = s.hh := rfl
@[simp] theorem State.imgLen_setOffset (s : State) (off : Word) : (s.setOffset off).imgLen = s.imgLen := rfl
@[simp] theorem State.pollCount_setOffset (s : State) (off : Word) : (s.setOffset off).pollCount = s.pollCount := rfl
@[simp] theorem State.pollLimit_setOffset (s : State) (off : Word) : (s.setOffset off).pollLimit = s.pollLimit := rfl
@[simp] theorem State.image_setOffset (s : State) (off : Word) : (s.setOffset off).image = s.image := rfl
@[simp] theorem State.host_setOffset (s : State) (off : Word) : (s.setOffset off).host = s.host := rfl
@[simp] theorem State.result_setOffset (s : State) (off : Word) : (s.setOffset off).result = s.result := rfl

/-! ### Steps 1 and 2 of `PAYLOAD_WORD` (R204) -/

@[simp] theorem State.phase_encodeStep (s : State) (c k : Word) : (s.encodeStep c k).phase = s.phase := rfl
@[simp] theorem State.idx_encodeStep (s : State) (c k : Word) : (s.encodeStep c k).idx = s.idx := rfl
@[simp] theorem State.sent_encodeStep (s : State) (c k : Word) : (s.encodeStep c k).sent = s.sent := rfl
@[simp] theorem State.peer_encodeStep (s : State) (c k : Word) : (s.encodeStep c k).peer = s.peer := rfl
@[simp] theorem State.trace_encodeStep (s : State) (c k : Word) : (s.encodeStep c k).trace = s.trace := rfl
@[simp] theorem State.err_encodeStep (s : State) (c k : Word) : (s.encodeStep c k).err = s.err := rfl
@[simp] theorem State.failPhase_encodeStep (s : State) (c k : Word) : (s.encodeStep c k).failPhase = s.failPhase := rfl
@[simp] theorem State.failIdx_encodeStep (s : State) (c k : Word) : (s.encodeStep c k).failIdx = s.failIdx := rfl
@[simp] theorem State.keystreamState_encodeStep (s : State) (c k : Word) : (s.encodeStep c k).keystreamState = .held k := rfl
@[simp] theorem State.checksum_encodeStep (s : State) (c k : Word) : (s.encodeStep c k).checksum = .held c := rfl
@[simp] theorem State.checksumFinalizer_encodeStep (s : State) (c k : Word) :
    (s.encodeStep c k).checksumFinalizer = s.checksumFinalizer := rfl
@[simp] theorem State.payloadOffset_encodeStep (s : State) (c k : Word) :
    (s.encodeStep c k).payloadOffset = s.payloadOffset := rfl
@[simp] theorem State.hh_encodeStep (s : State) (c k : Word) : (s.encodeStep c k).hh = s.hh := rfl
@[simp] theorem State.imgLen_encodeStep (s : State) (c k : Word) : (s.encodeStep c k).imgLen = s.imgLen := rfl
@[simp] theorem State.pollCount_encodeStep (s : State) (c k : Word) : (s.encodeStep c k).pollCount = s.pollCount := rfl
@[simp] theorem State.pollLimit_encodeStep (s : State) (c k : Word) : (s.encodeStep c k).pollLimit = s.pollLimit := rfl
@[simp] theorem State.image_encodeStep (s : State) (c k : Word) : (s.encodeStep c k).image = s.image := rfl
@[simp] theorem State.host_encodeStep (s : State) (c k : Word) : (s.encodeStep c k).host = s.host := rfl
@[simp] theorem State.result_encodeStep (s : State) (c k : Word) : (s.encodeStep c k).result = s.result := rfl

/-! ### The writes of `FIN_FOLD` (R208) -/

@[simp] theorem State.phase_foldFinal (s : State) (c : Word) : (s.foldFinal c).phase = s.phase := rfl
@[simp] theorem State.idx_foldFinal (s : State) (c : Word) : (s.foldFinal c).idx = 1 := rfl
@[simp] theorem State.sent_foldFinal (s : State) (c : Word) : (s.foldFinal c).sent = s.sent := rfl
@[simp] theorem State.peer_foldFinal (s : State) (c : Word) : (s.foldFinal c).peer = s.peer := rfl
@[simp] theorem State.trace_foldFinal (s : State) (c : Word) : (s.foldFinal c).trace = s.trace := rfl
@[simp] theorem State.err_foldFinal (s : State) (c : Word) : (s.foldFinal c).err = s.err := rfl
@[simp] theorem State.failPhase_foldFinal (s : State) (c : Word) : (s.foldFinal c).failPhase = s.failPhase := rfl
@[simp] theorem State.failIdx_foldFinal (s : State) (c : Word) : (s.foldFinal c).failIdx = s.failIdx := rfl
@[simp] theorem State.keystreamState_foldFinal (s : State) (c : Word) :
    (s.foldFinal c).keystreamState = s.keystreamState := rfl
@[simp] theorem State.checksum_foldFinal (s : State) (c : Word) : (s.foldFinal c).checksum = .held c := rfl
@[simp] theorem State.checksumFinalizer_foldFinal (s : State) (c : Word) :
    (s.foldFinal c).checksumFinalizer = s.checksumFinalizer := rfl
@[simp] theorem State.payloadOffset_foldFinal (s : State) (c : Word) : (s.foldFinal c).payloadOffset = s.payloadOffset := rfl
@[simp] theorem State.hh_foldFinal (s : State) (c : Word) : (s.foldFinal c).hh = s.hh := rfl
@[simp] theorem State.imgLen_foldFinal (s : State) (c : Word) : (s.foldFinal c).imgLen = s.imgLen := rfl
@[simp] theorem State.pollCount_foldFinal (s : State) (c : Word) : (s.foldFinal c).pollCount = s.pollCount := rfl
@[simp] theorem State.pollLimit_foldFinal (s : State) (c : Word) : (s.foldFinal c).pollLimit = s.pollLimit := rfl
@[simp] theorem State.image_foldFinal (s : State) (c : Word) : (s.foldFinal c).image = s.image := rfl
@[simp] theorem State.host_foldFinal (s : State) (c : Word) : (s.foldFinal c).host = s.host := rfl
@[simp] theorem State.result_foldFinal (s : State) (c : Word) : (s.foldFinal c).result = s.result := rfl

/-! ### The boundary that is past -/

@[simp] theorem State.phase_passBoundary (s : State) : s.passBoundary.phase = s.phase := rfl
@[simp] theorem State.idx_passBoundary (s : State) : s.passBoundary.idx = s.idx := rfl
@[simp] theorem State.sent_passBoundary (s : State) : s.passBoundary.sent = s.sent := rfl
@[simp] theorem State.peer_passBoundary (s : State) : s.passBoundary.peer = s.peer := rfl
@[simp] theorem State.trace_passBoundary (s : State) : s.passBoundary.trace = s.trace := rfl
@[simp] theorem State.err_passBoundary (s : State) : s.passBoundary.err = s.err := rfl
@[simp] theorem State.failPhase_passBoundary (s : State) : s.passBoundary.failPhase = s.failPhase := rfl
@[simp] theorem State.failIdx_passBoundary (s : State) : s.passBoundary.failIdx = s.failIdx := rfl
@[simp] theorem State.keystreamState_passBoundary (s : State) : s.passBoundary.keystreamState = s.keystreamState := rfl
@[simp] theorem State.checksum_passBoundary (s : State) : s.passBoundary.checksum = s.checksum := rfl
@[simp] theorem State.checksumFinalizer_passBoundary (s : State) :
    s.passBoundary.checksumFinalizer = s.checksumFinalizer := rfl
@[simp] theorem State.payloadOffset_passBoundary (s : State) : s.passBoundary.payloadOffset = s.payloadOffset := rfl
@[simp] theorem State.hh_passBoundary (s : State) : s.passBoundary.hh = s.hh := rfl
@[simp] theorem State.imgLen_passBoundary (s : State) : s.passBoundary.imgLen = s.imgLen := rfl
@[simp] theorem State.pollCount_passBoundary (s : State) : s.passBoundary.pollCount = s.pollCount := rfl
@[simp] theorem State.pollLimit_passBoundary (s : State) : s.passBoundary.pollLimit = s.pollLimit := rfl
@[simp] theorem State.image_passBoundary (s : State) : s.passBoundary.image = s.image := rfl
@[simp] theorem State.host_passBoundary (s : State) : s.passBoundary.host = s.host.tail := rfl
@[simp] theorem State.result_passBoundary (s : State) : s.passBoundary.result = s.result := rfl

/-! ### Clearing the poll count (R113) -/

@[simp] theorem State.phase_clearPollCount (s : State) : s.clearPollCount.phase = s.phase := by
  unfold State.clearPollCount; split <;> rfl
@[simp] theorem State.idx_clearPollCount (s : State) : s.clearPollCount.idx = s.idx := by
  unfold State.clearPollCount; split <;> rfl
@[simp] theorem State.sent_clearPollCount (s : State) : s.clearPollCount.sent = s.sent := by
  unfold State.clearPollCount; split <;> rfl
@[simp] theorem State.peer_clearPollCount (s : State) : s.clearPollCount.peer = s.peer := by
  unfold State.clearPollCount; split <;> rfl
@[simp] theorem State.trace_clearPollCount (s : State) : s.clearPollCount.trace = s.trace := by
  unfold State.clearPollCount; split <;> rfl
@[simp] theorem State.err_clearPollCount (s : State) : s.clearPollCount.err = s.err := by
  unfold State.clearPollCount; split <;> rfl
@[simp] theorem State.failPhase_clearPollCount (s : State) : s.clearPollCount.failPhase = s.failPhase := by
  unfold State.clearPollCount; split <;> rfl
@[simp] theorem State.failIdx_clearPollCount (s : State) : s.clearPollCount.failIdx = s.failIdx := by
  unfold State.clearPollCount; split <;> rfl
@[simp] theorem State.keystreamState_clearPollCount (s : State) : s.clearPollCount.keystreamState = s.keystreamState := by
  unfold State.clearPollCount; split <;> rfl
@[simp] theorem State.checksum_clearPollCount (s : State) : s.clearPollCount.checksum = s.checksum := by
  unfold State.clearPollCount; split <;> rfl
@[simp] theorem State.checksumFinalizer_clearPollCount (s : State) : s.clearPollCount.checksumFinalizer = s.checksumFinalizer := by
  unfold State.clearPollCount; split <;> rfl
@[simp] theorem State.payloadOffset_clearPollCount (s : State) : s.clearPollCount.payloadOffset = s.payloadOffset := by
  unfold State.clearPollCount; split <;> rfl
@[simp] theorem State.hh_clearPollCount (s : State) : s.clearPollCount.hh = s.hh := by
  unfold State.clearPollCount; split <;> rfl
@[simp] theorem State.imgLen_clearPollCount (s : State) : s.clearPollCount.imgLen = s.imgLen := by
  unfold State.clearPollCount; split <;> rfl
@[simp] theorem State.pollCount_clearPollCount (s : State) :
    s.clearPollCount.pollCount = if s.pollLimit = none then s.pollCount else .held 0 := by
  unfold State.clearPollCount; split <;> simp_all
@[simp] theorem State.pollLimit_clearPollCount (s : State) : s.clearPollCount.pollLimit = s.pollLimit := by
  unfold State.clearPollCount; split <;> rfl
@[simp] theorem State.image_clearPollCount (s : State) : s.clearPollCount.image = s.image := by
  unfold State.clearPollCount; split <;> rfl
@[simp] theorem State.host_clearPollCount (s : State) : s.clearPollCount.host = s.host := by
  unfold State.clearPollCount; split <;> rfl
@[simp] theorem State.result_clearPollCount (s : State) : s.clearPollCount.result = s.result := by
  unfold State.clearPollCount; split <;> rfl

/-! ### The loop test (R143, R203) -/

@[simp] theorem State.phase_gotoPayloadOrFinalize (s : State) (off len : Word) :
    (s.gotoPayloadOrFinalize off len).phase = if off < roundedLength len then .payload else .finalize := by
  unfold State.gotoPayloadOrFinalize; split <;> rfl
@[simp] theorem State.idx_gotoPayloadOrFinalize (s : State) (off len : Word) :
    (s.gotoPayloadOrFinalize off len).idx = 0 := by
  unfold State.gotoPayloadOrFinalize; split <;> rfl
@[simp] theorem State.sent_gotoPayloadOrFinalize (s : State) (off len : Word) :
    (s.gotoPayloadOrFinalize off len).sent = s.sent := by
  unfold State.gotoPayloadOrFinalize; split <;> rfl
@[simp] theorem State.peer_gotoPayloadOrFinalize (s : State) (off len : Word) :
    (s.gotoPayloadOrFinalize off len).peer = s.peer := by
  unfold State.gotoPayloadOrFinalize; split <;> rfl
@[simp] theorem State.err_gotoPayloadOrFinalize (s : State) (off len : Word) :
    (s.gotoPayloadOrFinalize off len).err = s.err := by
  unfold State.gotoPayloadOrFinalize; split <;> rfl
@[simp] theorem State.failPhase_gotoPayloadOrFinalize (s : State) (off len : Word) :
    (s.gotoPayloadOrFinalize off len).failPhase = s.failPhase := by
  unfold State.gotoPayloadOrFinalize; split <;> rfl
@[simp] theorem State.failIdx_gotoPayloadOrFinalize (s : State) (off len : Word) :
    (s.gotoPayloadOrFinalize off len).failIdx = s.failIdx := by
  unfold State.gotoPayloadOrFinalize; split <;> rfl
@[simp] theorem State.keystreamState_gotoPayloadOrFinalize (s : State) (off len : Word) :
    (s.gotoPayloadOrFinalize off len).keystreamState = s.keystreamState := by
  unfold State.gotoPayloadOrFinalize; split <;> rfl
@[simp] theorem State.checksum_gotoPayloadOrFinalize (s : State) (off len : Word) :
    (s.gotoPayloadOrFinalize off len).checksum = s.checksum := by
  unfold State.gotoPayloadOrFinalize; split <;> rfl
@[simp] theorem State.checksumFinalizer_gotoPayloadOrFinalize (s : State) (off len : Word) :
    (s.gotoPayloadOrFinalize off len).checksumFinalizer = s.checksumFinalizer := by
  unfold State.gotoPayloadOrFinalize; split <;> rfl
@[simp] theorem State.payloadOffset_gotoPayloadOrFinalize (s : State) (off len : Word) :
    (s.gotoPayloadOrFinalize off len).payloadOffset = s.payloadOffset := by
  unfold State.gotoPayloadOrFinalize; split <;> rfl
@[simp] theorem State.hh_gotoPayloadOrFinalize (s : State) (off len : Word) :
    (s.gotoPayloadOrFinalize off len).hh = s.hh := by
  unfold State.gotoPayloadOrFinalize; split <;> rfl
@[simp] theorem State.imgLen_gotoPayloadOrFinalize (s : State) (off len : Word) :
    (s.gotoPayloadOrFinalize off len).imgLen = s.imgLen := by
  unfold State.gotoPayloadOrFinalize; split <;> rfl
@[simp] theorem State.pollCount_gotoPayloadOrFinalize (s : State) (off len : Word) :
    (s.gotoPayloadOrFinalize off len).pollCount = s.pollCount := by
  unfold State.gotoPayloadOrFinalize; split <;> rfl
@[simp] theorem State.pollLimit_gotoPayloadOrFinalize (s : State) (off len : Word) :
    (s.gotoPayloadOrFinalize off len).pollLimit = s.pollLimit := by
  unfold State.gotoPayloadOrFinalize; split <;> rfl
@[simp] theorem State.image_gotoPayloadOrFinalize (s : State) (off len : Word) :
    (s.gotoPayloadOrFinalize off len).image = s.image := by
  unfold State.gotoPayloadOrFinalize; split <;> rfl
@[simp] theorem State.host_gotoPayloadOrFinalize (s : State) (off len : Word) :
    (s.gotoPayloadOrFinalize off len).host = s.host := by
  unfold State.gotoPayloadOrFinalize; split <;> rfl
@[simp] theorem State.result_gotoPayloadOrFinalize (s : State) (off len : Word) :
    (s.gotoPayloadOrFinalize off len).result = s.result := by
  unfold State.gotoPayloadOrFinalize; split <;> rfl

end Sys2Proof.Machine
end

