-- ==== Sys2Proof/Laws/Operands.lean ====
section
/-! SUPPORT. Operand assembly as arithmetic on naturals, and the control states as facts: which phases perform an operation, and
that those are legal and busy. Proofs about an operation's word or place cite these. -/

namespace Sys2Proof.Machine

/-! ### Words as naturals -/

/-- The width of the type is the `W` of the parameter record (R6). -/
theorem word_width : Word = BitVec params.wordBits := rfl

theorem and_keyMask_toNat (x : Word) : (x &&& 0xFF).toNat = x.toNat % 256 := by
  rw [BitVec.toNat_and]; exact Nat.and_two_pow_sub_one_eq_mod x.toNat 8

/-- Bits 23..16 of a response (R77). -/
theorem carriedByte_toNat (r : Word) : (carriedByte r).toNat = r.toNat / 65536 % 256 := by
  have e : carriedByte r = ((r >>> 16) &&& 0xFF).setWidth 8 := rfl
  rw [e, BitVec.toNat_setWidth, and_keyMask_toNat, BitVec.toNat_ushiftRight, Nat.shiftRight_eq_div_pow]
  omega

/-- The sum of `hh` cannot wrap (R25). -/
theorem hhOf_toNat (b : Byte) : (hhOf b).toNat = 0xF + b.toNat := by
  have e : hhOf b = 0xF#32 + b.setWidth 32 := rfl
  have := b.isLt
  rw [e, BitVec.toNat_add, BitVec.toNat_setWidth, BitVec.toNat_ofNat]
  omega

/-- The seed's sum wraps (R176). -/
theorem lcgSeed_toNat (b : Byte) : (lcgSeed b).toNat = (0xFFFFFFD1 + b.toNat) % 2 ^ 32 := by
  have e : lcgSeed b = 0xFFFFFFD1#32 + b.setWidth 32 := rfl
  have := b.isLt
  rw [e, BitVec.toNat_add, BitVec.toNat_setWidth, BitVec.toNat_ofNat]
  simp

theorem handshakeWord_eq (h : Word) : handshakeWord h = (h &&& 0xFF) ||| 0x00006400 := rfl

/-- The division of the length word is of the wrapped difference (R141). -/
theorem lengthWord_toNat (l : Word) : (lengthWord l).toNat = (l - 0x190).toNat / 4 := by
  simp [lengthWord, lengthWordWith, params, BitVec.toNat_udiv]

/-! ### One checksum iteration -/

theorem crcStep_fst (c d : Word) : (crcStep (c, d)).1 = (c >>> 1) ^^^ (if crcTest c d then 0xC37B else 0) := by
  simp only [crcStep, params]; split <;> simp

theorem crcStep_snd (c d : Word) : (crcStep (c, d)).2 = d >>> 1 := rfl

/-- The data word is shifted out and nothing else happens to it (R161). -/
theorem crcIterate_snd (n : Nat) (c d : Word) : (crcIterate n (c, d)).2 = d >>> n := by
  induction n generalizing c d with
  | zero => simp [crcIterate]
  | succ n ih =>
    simp only [crcIterate]
    have := ih (crcStep (c, d)).1 (crcStep (c, d)).2
    rw [Prod.mk.eta] at this
    rw [this, crcStep_snd, ← BitVec.shiftRight_add, Nat.add_comm]

/-! ### Control states -/

/-- A control state that performs an operation is busy. -/
theorem opAt_busy {s : State} {i : Instr} (h : opAt s.phase s.idx = some i) : s.busy = true := by
  unfold State.busy; cases hp : s.phase <;> simp_all [opAt, Phase.resting]

/-- And it is one of R30's. -/
theorem opAt_legal {s : State} {i : Instr} (h : opAt s.phase s.idx = some i) : controlLegal s.phase s.idx = true := by
  have hb := opAt_busy h
  simp only [State.busy, Bool.not_eq_true'] at hb
  simp [controlLegal, h, hb]

/-- A legal busy control state performs an operation. -/
theorem legal_busy_op {s : State} (hl : controlLegal s.phase s.idx = true) (hb : s.busy = true) :
    ∃ i, opAt s.phase s.idx = some i := by
  simp only [State.busy, Bool.not_eq_true'] at hb
  simpa [controlLegal, hb, Option.isSome_iff_exists] using hl

/-- Every operation of a control state sends a word, but for `FIN_FOLD` (R100, R208). -/
theorem opAt_format {p : Phase} {n : BitVec 7} {i : Instr} (h : opAt p n = some i) (hi : i ≠ .finFold) :
    (linkFormat i).isSome = true := by
  cases p <;> simp only [opAt] at h <;> repeat' split at h
  all_goals first | (cases h; rfl) | (cases h; exact absurd rfl hi) | cases h

/-- The control states of `HDR_UNIT` (R200). -/
theorem opAt_header {i : BitVec 7} (h : i.toNat ≤ 94) : opAt .header i = some .hdrUnit := by
  have : i.toNat < 95 := by omega
  simp [opAt, params, this]

end Sys2Proof.Machine
end

