-- ==== Sys2Proof/Laws/Ops.lean ====
section
/-! SUPPORT. What each shared operation can do, said once. Later proofs cite these and do not unfold the operations. -/

namespace Sys2Proof.Machine

/-! ### Guards and register reads -/

/-- An operation performed in its control state is its body. -/
theorem performedAt_eq {i : Instr} {s : State} (h : opAt s.phase s.idx = some i) (body : Result) :
    performedAt i s body = body := by simp [performedAt, h]

/-- Elsewhere it is refused. -/
theorem performedAt_refused {i : Instr} {s : State} (h : opAt s.phase s.idx ≠ some i) (body : Result) :
    performedAt i s body = .refused .notPerformedHere := by simp [performedAt, h]

/-- It answers next only in its control state, as its body does. -/
theorem performedAt_next {i : Instr} {s t : State} {body : Result} :
    performedAt i s body = .next t ↔ opAt s.phase s.idx = some i ∧ body = .next t := by
  unfold performedAt; split <;> simp_all

theorem performedWhen_eq {here : Instr → Bool} {s : State} {i : Instr} (h : opAt s.phase s.idx = some i)
    (hi : here i = true) (body : Result) : performedWhen here s body = body := by simp [performedWhen, h, hi]

theorem performedWhen_next {here : Instr → Bool} {s t : State} {body : Result} :
    performedWhen here s body = .next t ↔ (∃ i, opAt s.phase s.idx = some i ∧ here i = true) ∧ body = .next t := by
  unfold performedWhen
  cases h : opAt s.phase s.idx with
  | none => simp
  | some i => cases hi : here i <;> simp [hi]

theorem Reg.get_written {α : Type} {r : Reg α} (h : r.written = true) (n : RegName) (k : α → Result) :
    r.get n k = k r.bits := by simp [Reg.get, h]

/-- A register that holds no value cannot be read (R43). -/
theorem Reg.get_unwritten {α : Type} {r : Reg α} (h : r.written = false) (n : RegName) (k : α → Result) :
    r.get n k = .fault (.unwrittenRead n) := by simp [Reg.get, h]

theorem Reg.get_next {α : Type} {r : Reg α} {n : RegName} {k : α → Result} {t : State} :
    r.get n k = .next t ↔ r.written = true ∧ k r.bits = .next t := by
  unfold Reg.get; split <;> simp_all

/-- Everything a read after the exchange can do: the operation goes on with the bits, or the answer calls for a value the
register does not hold. -/
theorem State.getAfter_cases {α : Type} (s : State) (needed : LinkResult → Bool) (r : Reg α) (n : RegName) (k : α → Result) :
    ((r.written = true ∨ needed s.answer = false) ∧ s.getAfter needed r n k = k r.bits) ∨
    (r.written = false ∧ needed s.answer = true ∧ s.getAfter needed r n k = .fault (.unwrittenRead n)) := by
  cases hw : r.written <;> cases hn : needed s.answer <;> simp [State.getAfter, Reg.get, hw, hn]

/-- A register that holds a value, or that the answer does not call for, is no obstacle. -/
theorem State.getAfter_eq {α : Type} {s : State} {needed : LinkResult → Bool} {r : Reg α}
    (h : r.written = true ∨ needed s.answer = false) (n : RegName) (k : α → Result) : s.getAfter needed r n k = k r.bits := by
  rcases h with h | h <;> simp [State.getAfter, h]

/-- A register without a value that the answer calls for is the model fault of R43. -/
theorem State.getAfter_unwritten {α : Type} {s : State} {needed : LinkResult → Bool} {r : Reg α} (hw : r.written = false)
    (hn : needed s.answer = true) (n : RegName) (k : α → Result) : s.getAfter needed r n k = .fault (.unwrittenRead n) := by
  simp [State.getAfter, Reg.get, hw, hn]

theorem State.getAfter_next {α : Type} {s t : State} {needed : LinkResult → Bool} {r : Reg α} {n : RegName} {k : α → Result} :
    s.getAfter needed r n k = .next t ↔ (r.written = true ∨ needed s.answer = false) ∧ k r.bits = .next t := by
  rcases s.getAfter_cases needed r n k with ⟨h, e⟩ | ⟨hw, hn, e⟩
  · simp [e, h]
  · simp [e, hw, hn]

theorem withPollCount_next {s t : State} {e : Word} {body : Result} (h : withPollCount s e body = .next t) : body = .next t := by
  unfold withPollCount at h
  split at h
  · exact h
  · exact (State.getAfter_next.mp h).2

/-- Without a limit, with a count that holds a value, or on an answer that is no miss, the guard of a poll is its body. -/
theorem withPollCount_eq {s : State} {e : Word}
    (h : s.pollLimit = none ∨ s.pollCount.written = true ∨ missesOn e s.answer = false) (body : Result) :
    withPollCount s e body = body := by
  unfold withPollCount
  split
  · rfl
  · rcases h with h | h
    · simp_all
    · exact State.getAfter_eq h _ _

/-! ### The exchange -/

theorem State.exchange_ok {s : State} {rx : Word} (h : s.answer = .ok rx) (tx : Word) (rest : State → Word → State) :
    s.exchange tx rest = rest ((s.handOver tx).traceExchange tx rx) rx := by simp [State.exchange, h]

theorem State.exchange_fail {s : State} (h : s.answer = .fail) (tx : Word) (rest : State → Word → State) :
    s.exchange tx rest = (s.handOver tx).raise .transportFailure := by simp [State.exchange, h]

/-- Everything an exchange can do: it is answered and the rest of the operation runs, or it fails and the session ends
(R110, R224). -/
theorem State.exchange_cases (s : State) (tx : Word) (rest : State → Word → State) :
    (∃ rx, s.answer = .ok rx ∧ s.exchange tx rest = rest ((s.handOver tx).traceExchange tx rx) rx) ∨
    (s.answer = .fail ∧ s.exchange tx rest = (s.handOver tx).raise .transportFailure) := by
  cases h : s.answer with
  | ok rx => exact .inl ⟨rx, rfl, exchange_ok h tx rest⟩
  | fail => exact .inr ⟨rfl, exchange_fail h tx rest⟩

/-- The answer does not depend on the registers: updates that keep the script and the sent words keep it. -/
theorem State.answer_congr {s t : State} (hp : t.peer = s.peer) (hs : t.sent = s.sent) : t.answer = s.answer := by
  simp [State.answer, hp, hs]

@[simp] theorem State.answer_encodeStep (s : State) (c k : Word) : (s.encodeStep c k).answer = s.answer :=
  State.answer_congr rfl rfl

@[simp] theorem State.answer_passBoundary (s : State) : s.passBoundary.answer = s.answer := State.answer_congr rfl rfl

/-! ### Poll attempts -/

theorem State.pollMissed_noLimit {s : State} (h : s.pollLimit = none) : s.pollMissed = s := by simp [State.pollMissed, h]

theorem State.pollMissed_limit {s : State} {k : Nat} (h : s.pollLimit = some k) :
    s.pollMissed =
      if s.pollCount.bits + 1 = k then
        ({ s with pollCount := .held (s.pollCount.bits + 1) } : State).raise .peerUnresponsive
      else { s with pollCount := .held (s.pollCount.bits + 1) } := by simp [State.pollMissed, h]

/-- Everything one attempt of a poll loop can do (R112, R113). -/
theorem State.pollOnce_cases (s : State) (w e : Word) (matched : State → State) :
    (s.answer = .ok e ∧ s.pollOnce w e matched = matched ((s.handOver w).traceExchange w e)) ∨
    (∃ rx, s.answer = .ok rx ∧ rx ≠ e ∧ s.pollOnce w e matched = ((s.handOver w).traceExchange w rx).pollMissed) ∨
    (s.answer = .fail ∧ s.pollOnce w e matched = (s.handOver w).raise .transportFailure) := by
  rcases s.exchange_cases w (fun s' rx => if rx = e then matched s' else s'.pollMissed) with ⟨rx, ha, hx⟩ | ⟨ha, hx⟩
  · by_cases hr : rx = e
    · subst hr; exact .inl ⟨ha, by simp [pollOnce, hx]⟩
    · exact .inr (.inl ⟨rx, ha, hr, by simp [pollOnce, hx, hr]⟩)
  · exact .inr (.inr ⟨ha, hx⟩)

/-! ### The boundary -/

/-- Everything a boundary can select (R232). -/
theorem State.select_cases (s : State) :
    (s.slot.reset = true ∧ s.select = .run .reset) ∨
    (s.slot.reset = false ∧ controlLegal s.phase s.idx = false ∧ s.select = .illegal) ∨
    (s.slot.reset = false ∧ s.busy = true ∧ s.slot.abort = true ∧ s.select = .run .abort) ∨
    (∃ i, s.slot.reset = false ∧ s.busy = true ∧ s.slot.abort = false ∧ opAt s.phase s.idx = some i ∧ s.select = .run i) ∨
    (∃ len, s.slot.reset = false ∧ s.busy = false ∧ s.slot.start = some len ∧ s.select = .run (.start len)) ∨
    (s.slot.reset = false ∧ s.busy = false ∧ s.slot.start = none ∧ s.select = .nothing) := by
  unfold State.select State.currentOp
  cases hr : s.slot.reset with
  | true => simp
  | false =>
    cases hl : controlLegal s.phase s.idx with
    | false => simp
    | true =>
      cases hb : s.busy with
      | false => cases hst : s.slot.start <;> simp
      | true =>
        cases ha : s.slot.abort with
        | true => simp
        | false =>
          cases ho : opAt s.phase s.idx with
          | some i => simp
          | none =>
            simp only [State.busy, Bool.not_eq_true'] at hb
            simp [controlLegal, hb, ho] at hl

/-- A step that answers next ran a command or an operation, or passed a boundary at which nothing is enabled. -/
theorem step_next {s t : State} (h : step s = .next t) :
    (∃ i, s.select = .run i ∧ exec i s.passBoundary = .next t) ∨ (s.select = .nothing ∧ t = s.passBoundary) := by
  unfold step at h
  split at h
  · exact .inl ⟨_, ‹_›, h⟩
  · exact .inr ⟨‹_›, by simpa using h.symm⟩
  · simp at h

end Sys2Proof.Machine
end

