-- ==== Sys2Proof/Laws/PerInstr.lean ====
section
/-! SUPPORT. The family `Placement`, one lemma per constructor: an operation is performed in the control state the map gives
it, it has a format exactly where it has a field width, and it has a format only if it has a control state
(`spec/30_encoding.md` R100, R101). -/

namespace Sys2Proof.Laws.Placement

def Statement (i : Instr) : Prop :=
  (∀ p n, pointOf i = some (p, n) → opAt p n = some i) ∧
    (linkFormat i).isSome = (fieldBits i).isSome ∧ ((linkFormat i).isSome = true → (pointOf i).isSome = true)

/-- A row without a control state and without a word. -/
theorem statement_of_none {i : Instr} (hp : pointOf i = none) (hf : linkFormat i = none) (hb : fieldBits i = none) :
    Statement i := by simp [Statement, hp, hf, hb]

/-- A row with control state `(p, n)`. -/
theorem statement_of_some {i : Instr} {p : Phase} {n : BitVec 7} (hp : pointOf i = some (p, n)) (ho : opAt p n = some i)
    (hf : (linkFormat i).isSome = (fieldBits i).isSome) : Statement i := by
  refine ⟨fun q m h => ?_, hf, fun _ => by simp [hp]⟩
  obtain ⟨rfl, rfl⟩ : p = q ∧ n = m := by simpa [hp] using h
  exact ho

theorem start (len : Word) : Statement (.start len) := statement_of_none rfl rfl rfl
theorem pollDiscover : Statement .pollDiscover := statement_of_some rfl rfl rfl
theorem recogA : Statement .recogA := statement_of_some rfl rfl rfl
theorem recogB : Statement .recogB := statement_of_some rfl rfl rfl
theorem hdrUnit : Statement .hdrUnit := statement_of_some rfl rfl rfl
theorem hdrEnd : Statement .hdrEnd := statement_of_some rfl rfl rfl
theorem infoAgain : Statement .infoAgain := statement_of_some rfl rfl rfl
theorem keyA : Statement .keyA := statement_of_some rfl rfl rfl
theorem keyB : Statement .keyB := statement_of_some rfl rfl rfl
theorem handshake : Statement .handshake := statement_of_some rfl rfl rfl
theorem length : Statement .length := statement_of_some rfl rfl rfl
theorem payloadWord : Statement .payloadWord := statement_of_some rfl rfl rfl
theorem finFold : Statement .finFold := statement_of_some rfl rfl rfl
theorem pollCrc : Statement .pollCrc := statement_of_some rfl rfl rfl
theorem crcAck : Statement .crcAck := statement_of_some rfl rfl rfl
theorem crcSend : Statement .crcSend := statement_of_some rfl rfl rfl
theorem abort : Statement .abort := statement_of_none rfl rfl rfl
theorem reset : Statement .reset := statement_of_none rfl rfl rfl
theorem exchange (tx : Word) : Statement (.exchange tx) := statement_of_none rfl rfl rfl
theorem waitUntil (w e : Word) : Statement (.waitUntil w e) := statement_of_none rfl rfl rfl
theorem crcFold (acc w : Word) : Statement (.crcFold acc w) := statement_of_none rfl rfl rfl
theorem lcgSeed (kb : Byte) : Statement (.lcgSeed kb) := statement_of_none rfl rfl rfl
theorem lcgNext (x : Word) : Statement (.lcgNext x) := statement_of_none rfl rfl rfl
theorem negate (v : Word) : Statement (.negate v) := statement_of_none rfl rfl rfl
theorem cipherMask (off k : Word) : Statement (.cipherMask off k) := statement_of_none rfl rfl rfl
theorem cipherXor (w off k : Word) : Statement (.cipherXor w off k) := statement_of_none rfl rfl rfl

end Sys2Proof.Laws.Placement
end

