-- ==== Sys2Proof/Tests/Slice0.lean ====
section
/-! SUPPORT. Tests. Expected values come from `spec/95_test_vectors.md` (P1 to P7, the V tables) or from a rule's worked example,
as each comment says. Then one witness per statement with hypotheses: a state and operands that meet them together. -/

namespace Sys2Proof.Tests

open Sys2Proof.Machine

-- Many kernel evaluations side by side each take a thread of their own; one after another they take one.
set_option Elab.async false

/-- Session P1 just before the end of the payload, put into control state `(p, n)`, with one answer of the peer waiting. -/
def sample (p : Phase) (n : BitVec 7) (rx : LinkResult) : State :=
  { State.reset with
    phase := p
    idx := n
    peer := [rx]
    imgLen := ⟨0xC0, true⟩
    checksum := ⟨0xC387, true⟩
    payloadOffset := ⟨0xBE, true⟩
    keystreamState := ⟨0x98, true⟩
    hh := ⟨0xD6, true⟩
    checksumFinalizer := ⟨0xFFFF0130, true⟩
    pollCount := ⟨0, true⟩ }

/-- The same with `POLL_LIMIT` and a count. -/
def limited (p : Phase) (n : BitVec 7) (rx : Word) (k count : Nat) : State :=
  { sample p n (.ok rx) with pollLimit := some k, pollCount := ⟨count, true⟩ }

/-- The same with one command of the host waiting. -/
def hosted (p : Phase) (n : BitVec 7) (slot : HostSlot) : State := { sample p n (.ok 0) with host := [slot] }

/-- What `f` reads of the next state; none at a stop. -/
def reads {α : Type} (f : State → α) : Result → Option α
  | .next t => some (f t)
  | .fault _ => none
  | .refused _ => none

/-! ### Well-formedness: each check refuses an ill-formed frame -/

theorem test_wf_refuses_rows_that_send_nothing :
    (Frame.mk .finFold 0).wf = false ∧ (Frame.mk .reset 0).wf = false ∧ (Frame.mk (.lcgNext 1) 0).wf = false := by decide

theorem test_wf_refuses_fields_that_do_not_fit :
    (Frame.mk .hdrUnit 0x10000).wf = false ∧ (Frame.mk .handshake 0x100).wf = false ∧ (Frame.mk .recogA 1).wf = false ∧
      (Frame.mk .crcSend 0x10000).wf = false := by decide

theorem test_wf_accepts_the_largest_fields :
    (Frame.mk .hdrUnit 0xFFFF).wf = true ∧ (Frame.mk .handshake 0xFF).wf = true ∧ (Frame.mk .recogA 0).wf = true ∧
      (Frame.mk .length 0xFFFFFFFF).wf = true := by decide

/-! ### Decoding: words written out bit by bit from R76 and the constants of R100 -/

theorem test_decode_constant_words :
    decode .discovery 0 (wireBytes 0b00000000000000000110001000000010) = .ok (⟨.pollDiscover, 0⟩, []) ∧
    decode .recognize 1 (wireBytes 0b00000000000000000110000100000010) = .ok (⟨.recogB, 0⟩, []) ∧
    decode .headerDone 0 (wireBytes 0b00000000000000000110001000000000) = .ok (⟨.hdrEnd, 0⟩, []) ∧
    decode .keyExchange 0 (wireBytes 0b00000000000000000110001111010001) = .ok (⟨.keyA, 0⟩, []) ∧
    decode .keyExchange 1 (wireBytes 0b00000000000000000110001111010001) = .ok (⟨.keyB, 0⟩, []) ∧
    decode .finalize 1 (wireBytes 0b00000000000000000000000001100101) = .ok (⟨.pollCrc, 0⟩, []) ∧
    decode .finalize 2 (wireBytes 0b00000000000000000000000001100110) = .ok (⟨.crcAck, 0⟩, []) := by decide +kernel

theorem test_decode_words_with_fields :
    decode .header 94 (wireBytes 0b00000000000000001011110110111100) = .ok (⟨.hdrUnit, 0xBDBC⟩, []) ∧
    decode .handshake 0 (wireBytes 0b00000000000000000110010011010110) = .ok (⟨.handshake, 0xD6⟩, []) ∧
    decode .length 0 (wireBytes 0b00111111111111111111111111001100) = .ok (⟨.length, 0x3FFFFFCC⟩, []) ∧
    decode .payload 0 (wireBytes 0b10011101010000111110110000100100) = .ok (⟨.payloadWord, 0x9D43EC24⟩, []) ∧
    decode .finalize 3 (wireBytes 0b00000000000000000100101111010101) = .ok (⟨.crcSend, 0x4BD5⟩, []) := by decide +kernel

/-- R59: the most significant byte comes first. -/
theorem test_wire_order : wireBytes 0x72026202 = [0x72, 0x02, 0x62, 0x02] := by decide

/-- One bit off, no operation, too short. -/
theorem test_decode_refuses_by_name :
    decode .recognize 1 (wireBytes 0x00006103) = .error .wrongFixedBits ∧
    decode .handshake 0 (wireBytes 0x00006500) = .error .wrongFixedBits ∧
    decode .finalize 3 (wireBytes 0x00010000) = .error .wrongFixedBits ∧
    decode .done 0 (wireBytes 0) = .error .noOperation ∧ decode .header 95 (wireBytes 0) = .error .noOperation ∧
    decode .payload 0 [1, 2, 3] = .error .shortWord := by decide +kernel

/-- Encoding from the same tables: `hh = 0x0F` sends `0x0000640F` (R139). -/
theorem test_encode : encode ⟨.handshake, 0x0F⟩ = [0x00, 0x00, 0x64, 0x0F] ∧ encode ⟨.keyA, 0⟩ = [0x00, 0x00, 0x63, 0xD1] ∧
    encode ⟨.finFold, 0⟩ = [] := by decide +kernel

theorem test_decode_table_word :
    decodeTableWord 32 0x6202 = some .pollDiscover ∧ decodeTableWord 32 0x6102 = some .recogB ∧
    decodeTableWord 32 0x63D1 = some .keyA ∧ decodeTableWord 32 0x64D6 = some .handshake ∧
    decodeTableWord 32 0x1234 = some .hdrUnit ∧ decodeTableWord 32 0x9D43EC24 = some .length ∧
    decodeTableWord 40 0x6202 = none := by decide +kernel

/-- The very next step sends the placed word. -/
theorem test_with_fetch_word_sends_the_word :
    reads State.sent (step ({ State.reset with peer := [.ok 0] }.withFetchWord 32 0x64D6)) = some [0x64D6] ∧
    reads State.sent (step ({ State.reset with peer := [.ok 0] }.withFetchWord 32 0x1234)) = some [0x1234] ∧
    reads State.sent (step ({ State.reset with peer := [.ok 0] }.withFetchWord 32 0x3FFFFFCC)) = some [0x3FFFFFCC] := by
  refine ⟨?_, ?_, ?_⟩ <;> decide +kernel

/-! ### Host commands -/

/-- R125's worked example. -/
theorem test_start : reads (fun t => (t.phase, t.checksum, t.payloadOffset, t.rounded)) (exec (.start 0xC0) State.reset) =
    some (.discovery, ⟨0xC387, true⟩, ⟨0, true⟩, 0xC0) := by decide +kernel

/-- P6. -/
theorem test_start_oversize : reads (fun t => (t.phase, t.err, t.failPhase, t.sent)) (exec (.start 0x40001) State.reset) =
    some (.failed, .invalidImage, ⟨.idle, true⟩, []) := by decide +kernel

/-- P7, the step at which ABORT is honoured. -/
theorem test_abort : reads (fun t => (t.phase, t.err, t.failPhase.bits, t.failIdx.bits))
    (step (hosted .discovery 0 ⟨false, true, none⟩)) = some (.failed, .aborted, .discovery, 0) := by decide +kernel

/-- R250. -/
theorem test_reset : reads (fun t => (t.phase, t.err, t.checksum.written, t.imgLen.written, t.hh.written))
    (step (hosted .payload 0 ⟨true, true, some 0⟩)) = some (.idle, .noError, false, false, false) := by decide +kernel

/-! ### The handshake -/

/-- V-XCH-1: `72026200` is a mismatch, `72026202` a match. -/
theorem test_poll_discover :
    reads (fun t => (t.phase, t.sent)) (step (sample .discovery 0 (.ok 0x72026200))) = some (.discovery, [0x6202]) ∧
    reads (fun t => (t.phase, t.sent)) (step (sample .discovery 0 (.ok 0x72026202))) = some (.recognize, [0x6202]) := by
  decide +kernel

/-- V-XCH-2: the second attempt at `POLL_LIMIT = 2` fails on a mismatch and succeeds on a match. -/
theorem test_poll_limit :
    reads (fun t => (t.phase, t.err, t.failPhase)) (step (limited .discovery 0 0x72026200 2 1)) =
      some (.failed, .peerUnresponsive, ⟨.discovery, true⟩) ∧
    reads (fun t => (t.phase, t.err)) (step (limited .discovery 0 0x72026202 2 1)) = some (.recognize, .noError) := by
  decide +kernel

/-- R130. -/
theorem test_recog_a : reads (fun t => (t.phase, t.idx, t.sent)) (step (sample .recognize 0 (.ok 0x72026202))) =
    some (.recognize, 1, [0x6202]) := by decide +kernel

/-- R131's worked example. -/
theorem test_recog_b : reads (fun t => (t.phase, t.idx, t.sent)) (step (sample .recognize 1 (.ok 0x72026102))) =
    some (.header, 0, [0x6102]) := by decide +kernel

/-- V-XCH-3. -/
theorem test_transport_failure : reads (fun t => (t.phase, t.err, t.failPhase.bits, t.failIdx.bits, t.history.length))
    (step (sample .recognize 1 .fail)) = some (.failed, .transportFailure, .recognize, 1, 0) := by decide +kernel

/-- V-MEM-1: the image `AA BB CC`, units 0 and 1. -/
theorem test_hdr_unit :
    let s := { sample .header 0 (.ok 0) with image := Image.load [] 0 [0xAA, 0xBB, 0xCC], imgLen := ⟨3, true⟩ }
    reads (fun t => (t.idx, t.sent, t.payloadOffset)) (step { s with payloadOffset := ⟨0, true⟩ }) =
      some (1, [0xBBAA], ⟨2, true⟩) ∧
    reads (fun t => (t.idx, t.sent, t.payloadOffset)) (step { s with payloadOffset := ⟨2, true⟩, idx := 1 }) =
      some (2, [0x00CC], ⟨4, true⟩) := by decide +kernel

/-- R200, R202: the 95th unit. -/
theorem test_hdr_unit_last :
    reads (fun t => (t.phase, t.idx, t.payloadOffset))
      (step { sample .header 94 (.ok 0) with payloadOffset := ⟨0xBC, true⟩ }) = some (.headerDone, 0, ⟨0xBE, true⟩) := by
  decide +kernel

/-- P1, lines HEADER_DONE.0, HEADER_DONE.1, KEY_EXCHANGE.0. -/
theorem test_hdr_end : reads (fun t => (t.phase, t.idx, t.sent)) (step (sample .headerDone 0 (.ok 0x20000))) =
    some (.headerDone, 1, [0x6200]) := by decide +kernel

theorem test_info_again : reads (fun t => (t.phase, t.idx, t.sent)) (step (sample .headerDone 1 (.ok 0x72026200))) =
    some (.keyExchange, 0, [0x6202]) := by decide +kernel

theorem test_key_a : reads (fun t => (t.phase, t.idx, t.sent, t.hh)) (step (sample .keyExchange 0 (.ok 0x73001111))) =
    some (.keyExchange, 1, [0x63D1], ⟨0xD6, true⟩) := by decide +kernel

/-- V-FSM-1, rows `C7` and `2E`. -/
theorem test_key_b :
    reads (fun t => (t.phase, t.keystreamState, t.hh)) (step (sample .keyExchange 1 (.ok 0x73C7ABCD))) =
      some (.handshake, ⟨0x98, true⟩, ⟨0xD6, true⟩) ∧
    reads (fun t => (t.phase, t.keystreamState, t.hh)) (step (sample .keyExchange 1 (.ok 0x732E0000))) =
      some (.handshake, ⟨0xFFFFFFFF, true⟩, ⟨0x3D, true⟩) := by decide +kernel

/-- V-FSM-1, rows `C7` and `F1`: `hh` past eight bits. -/
theorem test_handshake :
    reads (fun t => (t.phase, t.sent, t.hh)) (step (sample .handshake 0 (.ok 0x73000064))) =
      some (.length, [0x64D6], ⟨0xD6, true⟩) ∧
    reads (fun t => (t.phase, t.sent, t.hh)) (step { sample .handshake 0 (.ok 0) with hh := ⟨0x100, true⟩ }) =
      some (.length, [0x6400], ⟨0x100, true⟩) := by decide +kernel

/-- P1, line LENGTH.0. -/
theorem test_length : reads (fun t => (t.phase, t.sent, t.checksumFinalizer)) (step (sample .length 0 (.ok 0x735A1234))) =
    some (.payload, [0x3FFFFFCC], ⟨0xFFFF0130, true⟩) := by decide +kernel

/-- P2, line LENGTH.0: no payload. -/
theorem test_length_empty :
    reads (fun t => (t.phase, t.sent, t.checksumFinalizer))
      (step { sample .length 0 (.ok 0xFFFFFFFF) with imgLen := ⟨0, true⟩, hh := ⟨0x10E, true⟩ }) =
      some (.finalize, [0x3FFFFF9C], ⟨0xFFFF020D, true⟩) := by decide +kernel

/-! ### Payload and finalization -/

/-- P1, line PAYLOAD.0. -/
theorem test_payload_word :
    reads (fun t => (t.phase, t.sent, t.checksum, t.keystreamState, t.payloadOffset)) (step (sample .payload 0 (.ok 0))) =
      some (.finalize, [0x9D43EC24], ⟨0xAEA0, true⟩, ⟨0x239C3C49, true⟩, ⟨0xC2, true⟩) := by decide +kernel

/-- P5: the second word of P3 fails after its register writes. -/
theorem test_payload_word_fails :
    reads (fun t => (t.phase, t.sent, t.checksum, t.keystreamState, t.payloadOffset))
      (step { sample .payload 0 .fail with
        image := Image.load [] 0xC2 [0xC2, 0xC3, 0xC4, 0xC5]
        imgLen := ⟨0xD0, true⟩
        payloadOffset := ⟨0xC2, true⟩
        checksum := ⟨0x9DE6, true⟩
        keystreamState := ⟨0x8C915FE4, true⟩ }) =
      some (.failed, [0xAA2814BE], ⟨0x2BDC, false⟩, ⟨0xD133076D, false⟩, ⟨0xC2, false⟩) := by decide +kernel

/-- P1, line FINALIZE.0. -/
theorem test_fin_fold :
    reads (fun t => (t.idx, t.checksum, t.sent)) (step { sample .finalize 0 (.ok 0) with checksum := ⟨0xAEA0, true⟩ }) =
      some (1, ⟨0x4BD5, true⟩, []) := by decide +kernel

/-- P1, lines FINALIZE.1. -/
theorem test_poll_crc :
    reads (fun t => (t.idx, t.sent)) (step (sample .finalize 1 (.ok 0x00740065))) = some (1, [0x65]) ∧
    reads (fun t => (t.idx, t.sent)) (step (sample .finalize 1 (.ok 0x00750065))) = some (2, [0x65]) := by decide +kernel

theorem test_crc_ack : reads (fun t => (t.phase, t.idx, t.sent)) (step (sample .finalize 2 (.ok 0x00750066))) =
    some (.finalize, 3, [0x66]) := by decide +kernel

/-- P1, line FINALIZE.3 and end state: the register keeps its final value (R147) and is treated as unwritten (U12). -/
theorem test_crc_send :
    reads (fun t => (t.phase, t.sent, t.err, t.checksum))
      (step { sample .finalize 3 (.ok 0xDEADBEEF) with checksum := ⟨0x4BD5, true⟩ }) =
      some (.done, [0x4BD5], .noError, ⟨0x4BD5, false⟩) := by decide +kernel

/-- R43 with R113 and R143: an unwritten register stops the operation only on the answers that make it read the register. -/
theorem test_reads_fall_where_the_spec_has_them :
    reads State.phase (exec .pollDiscover { State.reset with phase := .discovery, pollLimit := some 2, peer := [.ok 0x72026202] }) =
      some .recognize ∧
    reads State.phase (exec .pollDiscover { State.reset with phase := .discovery, pollLimit := some 2, peer := [.ok 0] }) = none ∧
    reads State.err (exec .length { State.reset with phase := .length, imgLen := ⟨0, true⟩, peer := [.fail] }) =
      some .transportFailure ∧
    reads State.err (exec .length { State.reset with phase := .length, imgLen := ⟨0, true⟩, peer := [.ok 0] }) = none := by
  decide +kernel

/-! ### Primitives and functions -/

/-- R110's worked example. -/
theorem test_exchange :
    reads (fun t => (t.result, t.idx, t.trace)) (exec (.exchange 0x6102) (sample .recognize 1 (.ok 0x72026102))) =
      some (some 0x72026102, 1, [.exchange .recognize 1 0x6102 0x72026102]) := by decide +kernel

/-- One attempt each of R112's worked example. -/
theorem test_wait_until :
    reads (fun t => (t.result, t.phase)) (exec (.waitUntil 0x6202 0x72026202) (sample .discovery 0 (.ok 0))) =
      some (none, .discovery) ∧
    reads (fun t => (t.result, t.phase)) (exec (.waitUntil 0x6202 0x72026202) (sample .discovery 0 (.ok 0x72026202))) =
      some (some 0x72026202, .discovery) := by decide +kernel

/-- V-CRC-3. -/
theorem test_crc_fold :
    reads State.result (exec (.crcFold 0xC387 0x12345678) State.reset) = some (some 0x4DD0) ∧
    crcFold 0xC387 0xFFFFFFFF = 0xC1AE ∧ crcFold 0xC387 0x80000000 = 0x6DDB ∧ crcFold 0xFFFFFFFF 0 = 0x6F0E ∧
    crcFold 0 0x80000000 = 0xC37B := by decide +kernel

/-- V-CRC-2: the first four iterations. -/
theorem test_crc_steps :
    crcIterate 1 (0xC387, 0x12345678) = (0xA2B8, 0x091A2B3C) ∧ crcIterate 4 (0xC387, 0x12345678) = (0xD72C, 0x01234567) := by
  decide +kernel

/-- V-LCG-1. -/
theorem test_lcg_seed :
    reads State.result (exec (.lcgSeed 0xC7) State.reset) = some (some 0x98) ∧ lcgSeed 0 = 0xFFFFFFD1 ∧ lcgSeed 0x2F = 0 ∧
    lcgSeed 0x80 = 0x51 := by decide +kernel

/-- V-LCG-2. -/
theorem test_lcg_next :
    reads State.result (exec (.lcgNext 0x98) State.reset) = some (some 0x239C3C49) ∧ lcgNext 0xFFFFFFFF = 0x909B9A8E ∧
    lcgNext 0x80000000 = 0x80000001 := by decide +kernel

/-- V-CIP-1. -/
theorem test_negate :
    reads State.result (exec (.negate 0x020000BE) State.reset) = some (some 0xFDFFFF42) ∧ negate 0x0203FFFE = 0xFDFC0002 := by
  decide +kernel

/-- V-CIP-2. -/
theorem test_cipher_mask :
    reads State.result (exec (.cipherMask 0xC2 0x12345678) State.reset) = some (some 0xACEB8669) ∧
    cipherMask 0xFE000000 0 = 0x43202F2F := by decide +kernel

/-- V-CIP-3. -/
theorem test_cipher_xor :
    reads State.result (exec (.cipherXor 0xC1C0BFBE 0xBE 0x8C915FE4) State.reset) = some (some 0xF38E3037) ∧
    cipherXor 0xFFFFFFFF 0xBE 0x909B9A8E = 0xD1BBB51C := by decide +kernel

/-! ### Operands and the image -/

/-- V-FSM-3 and V-FSM-2. -/
theorem test_length_word_and_finalizer :
    lengthWord (roundedLength 177) = 0x3FFFFFCC ∧ lengthWord (roundedLength 399) = 0 ∧
    lengthWord (roundedLength 0x3FFF1) = 0xFF9C ∧ lengthWordWith .signed 0xC0 = 0xFFFFFFCC ∧
    finalizerSeed 0xFF 0x10E = 0xFFFF020D ∧ finalizerSeed 0xF1 0x0F = 0xFFFF0100 := by decide +kernel

/-- V-MEM-2 (bytes 190 to 192 are 11, the length is 193) and V-MEM-3's first unit. -/
theorem test_image_words :
    img32 (Image.load [] 190 [0x11, 0x11, 0x11]) 193 0xBE = 0x00111111 ∧ img16 (Image.load [] 0 [0, 1]) 208 0 = 0x0100 ∧
    img32 [(208, 0x55)] 208 0xCE = 0 := by decide +kernel

/-- A written byte reads back, and writing the unlisted byte removes the cell. -/
theorem test_image_write : Image.write [(1, 7), (4, 9)] 2 5 = [(1, 7), (2, 5), (4, 9)] ∧ Image.write [(1, 7), (4, 9)] 4 0 = [(1, 7)] ∧
    Image.read [(1, 7), (4, 9)] 4 = 9 ∧ Image.wf [(4, 9), (1, 7)] = false ∧ Image.wf [(1, 0)] = false := by decide +kernel

/-- R29, R32, R40: what the host reads in the sample state. -/
theorem test_status : (sample .keyExchange 1 .fail).status = ⟨5, 1, 0, 0, 0⟩ ∧ (sample .payload 0 .fail).busy = true ∧
    State.reset.idle = true ∧ (sample .failed 0 .fail).runClass = .sessionFault .noError := by decide +kernel

/-! ### Witnesses: hypotheses that can be met together

`witness_<Name>` belongs to the statement `<Name>`; a conjunct for each clause, at the ends of its range. -/

/-- The checks of the invariant that compute, for a state without a poll limit. -/
def invChecks (s : State) : Bool :=
  controlLegal s.phase s.idx && s.image.wf && decide (s.pollLimit = none) && decide (s.err ≠ .noError ↔ s.phase = .failed) &&
    decide (s.phase = .failed → s.failPhase.written = true ∧ s.failIdx.written = true) &&
    (s.imgLen.written && s.checksum.written && s.payloadOffset.written && s.keystreamState.written && s.hh.written &&
      s.checksumFinalizer.written) &&
    decide (s.imgLen.bits ≤ 0x40000) && decide (s.checksum.bits ≤ 0xFFFF) && decide (0x0F ≤ s.hh.bits ∧ s.hh.bits ≤ 0x10E) &&
    decide (0xFFFF000F ≤ s.checksumFinalizer.bits ∧ s.checksumFinalizer.bits ≤ 0xFFFF020D) &&
    decide (s.keystreamState.bits ≤ 0xD0)

theorem sessionInv_of_checks {s : State} (h : invChecks s = true) (ho : s.offsetOk) : SessionInv s := by
  simp only [invChecks, Bool.and_eq_true, decide_eq_true_eq] at h
  obtain ⟨⟨⟨⟨⟨⟨⟨⟨⟨⟨h1, h2⟩, h3⟩, h4⟩, h5⟩, h6⟩, h7⟩, h8⟩, h9⟩, h10⟩, h11⟩ := h
  exact {
    control := h1
    image := h2
    limit := by simp [h3]
    err := h4
    failRecord := h5
    session := fun _ => ⟨h6.1.1.1.1.1, h6.1.1.1.1.2, h6.1.1.1.2, h7⟩
    keys := fun _ => ⟨h6.1.1.2, h6.1.2⟩
    finalizer := fun _ => h6.2
    checksumRange := fun _ => h8
    offset := ho
    hhRange := fun _ => h9
    finalizerRange := fun _ => h10
    seedRange := fun _ => .inl h11
    pollCount := fun _ k hk => by simp [h3] at hk }

/-- At LENGTH, PAYLOAD and every phase from HEADER_DONE to LENGTH the sample state is a state of the invariant. -/
theorem inv_payload (rx : LinkResult) : SessionInv (sample .payload 0 rx) :=
  sessionInv_of_checks rfl
    (show (0xBE : Word) ≤ 0xBE ∧ (0xBE : Word).toNat % 4 = 2 ∧ (0xBE : Word) < roundedLength 0xC0 by decide +kernel)

theorem inv_length (rx : LinkResult) : SessionInv (sample .length 0 rx) :=
  sessionInv_of_checks rfl (show (0xBE : Word) = 0xBE from rfl)

/-- A session that has just begun. -/
def fresh (peer : List LinkResult) : State :=
  { sample .discovery 0 .fail with peer := peer, payloadOffset := ⟨0, true⟩ }

theorem inv_fresh (peer : List LinkResult) : SessionInv (fresh peer) :=
  sessionInv_of_checks rfl (show (0 : Word) = 0 from rfl)

theorem witness_StartCommandBeginsOrFailsSession :
    (State.reset.phase = .idle ∧ (0x40000 : Word) ≤ 0x40000) ∧
    ((sample .failed 0 .fail).phase = .failed ∧ (0x40000 : Word) < 0x40001) ∧
    ¬((sample .discovery 0 .fail).phase = .idle ∨ (sample .discovery 0 .fail).phase = .done ∨
      (sample .discovery 0 .fail).phase = .failed) := by decide

theorem witness_CommandsOutOfPlaceAreIgnored :
    (sample .discovery 0 .fail).busy = true ∧ (sample .done 0 .fail).busy = false ∧ (0x40000 : Word) < 0x40001 := by decide

theorem witness_AbortEntersFailedWhileBusy : (sample .finalize 3 .fail).busy = true := by decide

theorem witness_BoundaryPriorityIsResetAbortOperation :
    (hosted .payload 0 ⟨true, true, some 0⟩).slot.reset = true ∧
    (let s := hosted .payload 0 ⟨false, true, some 0⟩
     s.slot.reset = false ∧ controlLegal s.phase s.idx = true ∧ s.busy = true ∧ s.slot.abort = true) ∧
    (let s := hosted .header 94 ⟨false, false, some 0⟩
     s.slot.reset = false ∧ s.slot.abort = false ∧ opAt s.phase s.idx = some .hdrUnit) ∧
    (let s := hosted .failed 0 ⟨false, true, some 0x40000⟩
     s.slot.reset = false ∧ controlLegal s.phase s.idx = true ∧ s.busy = false ∧ s.slot.start = some 0x40000) ∧
    (let s := hosted .done 0 ⟨false, true, none⟩
     s.slot.reset = false ∧ controlLegal s.phase s.idx = true ∧ s.busy = false ∧ s.slot.start = none) := by decide +kernel

theorem witness_StepRunsTheDecodedOperation :
    let s := hosted .header 94 .quiet
    s.slot = .quiet ∧ decode s.phase s.idx [0, 0, 0x62, 0x02, 7] = .ok (⟨.hdrUnit, 0x6202⟩, [7]) := by decide +kernel

theorem witness_IllegalControlIsRefused :
    let s := sample .header 95 .fail
    controlLegal s.phase s.idx = false ∧ s.slot.reset = false := by decide +kernel

theorem witness_RowsOutOfTheirControlStateAreRefused :
    let s := sample .finalize 0 .fail
    (pointOf .recogA).isSome = true ∧ opAt s.phase s.idx ≠ some .recogA ∧
    (opAt s.phase s.idx = none ∨ opAt s.phase s.idx = some .finFold) ∧
    opAt s.phase s.idx ≠ some .pollDiscover ∧ opAt s.phase s.idx ≠ some .pollCrc := by decide +kernel

/-- Right after RESET no register holds a value, so each clause is met once the control state is put there; `cleared` is that
state with an answer waiting and a limit. -/
def cleared (p : Phase) (n : BitVec 7) (r : LinkResult) : State :=
  { State.reset with phase := p, idx := n, pollLimit := some 1, peer := [r] }

theorem witness_UnwrittenReadIsAModelFault :
    (let s := cleared .header 94 .fail
     s.phase = .header ∧ s.idx.toNat ≤ 94 ∧ (s.imgLen.written && s.payloadOffset.written) = false) ∧
    (let s := cleared .handshake 0 .fail
     s.phase = .handshake ∧ s.idx = 0 ∧ s.hh.written = false) ∧
    (let s := cleared .length 0 (.ok 7)
     s.phase = .length ∧ s.idx = 0 ∧ s.imgLen.written = false ∧ s.answer = .ok 7 ∧
       (s.imgLen.written && s.hh.written && s.payloadOffset.written) = false) ∧
    (let s := { cleared .length 0 .fail with imgLen := ⟨0, true⟩ }
     s.phase = .length ∧ s.idx = 0 ∧ s.answer = .fail ∧ s.imgLen.written = true ∧ s.hh.written = false) ∧
    (let s := cleared .payload 0 .fail
     s.phase = .payload ∧ s.idx = 0 ∧
       (s.imgLen.written && s.payloadOffset.written && s.checksum.written && s.keystreamState.written) = false) ∧
    (let s := cleared .finalize 0 .fail
     s.phase = .finalize ∧ s.idx = 0 ∧ (s.checksum.written && s.checksumFinalizer.written) = false) ∧
    (let s := cleared .finalize 3 .fail
     s.phase = .finalize ∧ s.idx = 3 ∧ s.checksum.written = false) ∧
    (let s := cleared .discovery 0 (.ok 7)
     s.pollLimit = some 1 ∧ s.pollCount.written = false ∧ s.answer = .ok 7 ∧ s.phase = .discovery ∧ s.idx = 0 ∧
       (7 : Word) ≠ 0x72026202) ∧
    (let s := cleared .finalize 1 (.ok 7)
     s.pollLimit = some 1 ∧ s.pollCount.written = false ∧ s.answer = .ok 7 ∧ s.phase = .finalize ∧ s.idx = 1 ∧
       (7 : Word) ≠ 0x00750065) := by
  refine ⟨?_, ?_, ?_, ?_, ?_, ?_, ?_, ?_, ?_⟩ <;> decide +kernel

theorem witness_FixedWordOperationsComplete :
    ∀ c ∈ [(Phase.recognize, (0 : BitVec 7)), (.recognize, 1), (.headerDone, 0), (.headerDone, 1), (.keyExchange, 0), (.finalize, 2)],
      let s := sample c.1 c.2 (.ok 0xFFFFFFFF)
      s.answer = .ok 0xFFFFFFFF ∧ s.phase = c.1 ∧ s.idx = c.2 := by decide

theorem witness_PollDiscoverComparesAllBits :
    (let s := cleared .discovery 0 (.ok 0x72026202)
     s.answer = .ok 0x72026202 ∧ s.phase = .discovery ∧ s.idx = 0) ∧
    (let s := sample .discovery 0 (.ok 0x72026203)
     s.answer = .ok 0x72026203 ∧ s.pollLimit = none ∧ (0x72026203 : Word) ≠ 0x72026202) := by
  refine ⟨⟨rfl, rfl, rfl⟩, ?_⟩; decide +kernel

theorem witness_PollCrcComparesAllBits :
    (let s := cleared .finalize 1 (.ok 0x00750065)
     s.answer = .ok 0x00750065 ∧ s.phase = .finalize ∧ s.idx = 1) ∧
    (let s := sample .finalize 1 (.ok 0x00740065)
     s.answer = .ok 0x00740065 ∧ s.pollLimit = none ∧ (0x00740065 : Word) ≠ 0x00750065) := by
  refine ⟨⟨rfl, rfl, rfl⟩, ?_⟩; decide +kernel

/-- The miss that reaches the limit and one that does not, for both polls. -/
theorem witness_PollLimitBoundsTheMisses :
    (let s := limited .discovery 0 0 1 0
     s.answer = .ok 0 ∧ s.pollLimit = some 1 ∧ s.pollCount.written = true ∧ s.phase = .discovery ∧ s.idx = 0 ∧
       (0 : Word) ≠ 0x72026202 ∧ s.pollCount.bits + 1 = 1) ∧
    (let s := limited .finalize 1 0 3 1
     s.answer = .ok 0 ∧ s.pollLimit = some 3 ∧ s.pollCount.written = true ∧ s.phase = .finalize ∧ s.idx = 1 ∧
       (0 : Word) ≠ 0x00750065 ∧ s.pollCount.bits + 1 ≠ 3) ∧
    (let s := limited .discovery 0 0 1 0
     s.answer = .ok 0 ∧ s.pollLimit = some 1 ∧ s.pollCount.written = true ∧ s.phase = .discovery ∧ s.idx = 0 ∧ (0 : Word) ≠ 5) := by
  decide +kernel

theorem witness_KeyBLatchesTheKeyByte :
    let s := sample .keyExchange 1 (.ok 0x00FF0000)
    s.answer = .ok 0x00FF0000 ∧ s.phase = .keyExchange ∧ s.idx = 1 := by decide

theorem witness_HandshakeSendsTheLowByteOfHh :
    let s := sample .handshake 0 (.ok 0)
    s.answer = .ok 0 ∧ s.phase = .handshake ∧ s.idx = 0 ∧ s.hh.written = true := by decide

/-- At `0xB1` a payload follows, at `0xB0` none does. -/
theorem witness_LengthSendsSizeAndLatchesFinalizer :
    let s (len : Word) : State := { sample .length 0 (.ok 0) with imgLen := ⟨len, true⟩ }
    ((s 0xB0).answer = .ok 0 ∧ (s 0xB0).phase = .length ∧ (s 0xB0).idx = 0 ∧ (s 0xB0).imgLen.written = true ∧
      (s 0xB0).hh.written = true ∧ (s 0xB0).payloadOffset.written = true) ∧
    ((s 0xB1).answer = .ok 0 ∧ (s 0xB1).phase = .length ∧ (s 0xB1).idx = 0 ∧ (s 0xB1).imgLen.written = true ∧
      (s 0xB1).hh.written = true ∧ (s 0xB1).payloadOffset.written = true) :=
  ⟨⟨rfl, rfl, rfl, rfl, rfl, rfl⟩, ⟨rfl, rfl, rfl, rfl, rfl, rfl⟩⟩

theorem witness_HeaderUnitIsSentUnmodified :
    ∀ n ∈ [(0 : BitVec 7), 93, 94],
      let s := sample .header n (.ok 0)
      s.answer = .ok 0 ∧ s.phase = .header ∧ s.idx.toNat ≤ 94 ∧ s.imgLen.written = true ∧ s.payloadOffset.written = true := by
  decide +kernel

/-- At `0xC0` the word is the last one, at `0xC1` it is not. -/
theorem witness_PayloadWordFoldsAdvancesEncrypts :
    let s (len : Word) : State := { sample .payload 0 (.ok 0) with imgLen := ⟨len, true⟩ }
    ((s 0xC0).answer = .ok 0 ∧ (s 0xC0).phase = .payload ∧ (s 0xC0).idx = 0 ∧ (s 0xC0).imgLen.written = true ∧
      (s 0xC0).payloadOffset.written = true ∧ (s 0xC0).checksum.written = true ∧ (s 0xC0).keystreamState.written = true) ∧
    ((s 0xC1).answer = .ok 0 ∧ (s 0xC1).phase = .payload ∧ (s 0xC1).idx = 0 ∧ (s 0xC1).imgLen.written = true ∧
      (s 0xC1).payloadOffset.written = true ∧ (s 0xC1).checksum.written = true ∧ (s 0xC1).keystreamState.written = true) :=
  ⟨⟨rfl, rfl, rfl, rfl, rfl, rfl, rfl⟩, ⟨rfl, rfl, rfl, rfl, rfl, rfl, rfl⟩⟩

theorem witness_FinalFoldTouchesOnlyTheChecksum :
    let s := sample .finalize 0 .fail
    s.phase = .finalize ∧ s.idx = 0 ∧ s.checksum.written = true ∧ s.checksumFinalizer.written = true := by decide

theorem witness_CrcSendEndsInDoneWhateverComesBack :
    let s := sample .finalize 3 (.ok 0xDEADBEEF)
    s.answer = .ok 0xDEADBEEF ∧ s.phase = .finalize ∧ s.idx = 3 ∧ s.checksum.written = true := by decide

theorem witness_ExchangePrimitiveReturnsTheResponse :
    ∀ r ∈ [LinkResult.ok 0, .fail],
      let s := sample .header 94 r
      opAt s.phase s.idx = some .hdrUnit ∧ Instr.hdrUnit ≠ .finFold ∧ s.answer = r := by decide

theorem witness_WaitUntilPassComparesAllBits :
    (let s := limited .discovery 0 5 1 0
     s.answer = .ok 5 ∧ s.phase = .discovery ∧ s.idx = 0) ∧
    (let s := sample .finalize 1 .fail
     s.answer = .fail ∧ s.phase = .finalize ∧ s.idx = 1) ∧
    (let s := sample .finalize 1 (.ok 5)
     s.answer = .ok 5 ∧ s.phase = .finalize ∧ s.idx = 1 ∧ s.pollLimit = none ∧ (5 : Word) ≠ 6) := by
  refine ⟨⟨rfl, rfl, rfl⟩, ⟨rfl, rfl, rfl⟩, ?_⟩; decide +kernel

theorem witness_FailedExchangeIsPrecise :
    (SessionInv (sample .payload 0 .fail) ∧ opAt .payload 0 = some .payloadWord ∧ Instr.payloadWord ≠ .finFold ∧
      (sample .payload 0 .fail).answer = .fail) ∧
    (SessionInv (fresh [.fail]) ∧ opAt .discovery 0 = some .pollDiscover ∧ Instr.pollDiscover ≠ .finFold ∧
      (fresh [.fail]).answer = .fail) :=
  ⟨⟨inv_payload _, rfl, by decide, rfl⟩, ⟨inv_fresh _, rfl, by decide, rfl⟩⟩

/-- Both ways out of FAILED. -/
theorem witness_FailedIsLeftOnlyByStartOrReset :
    ∀ slot ∈ [HostSlot.mk true false none, ⟨false, true, some 0x40000⟩],
      let s := hosted .failed 0 slot
      s.phase = .failed ∧ ∃ t, step s = .next t ∧ t.phase ≠ .failed := by
  intro slot h
  simp only [List.mem_cons, List.not_mem_nil, or_false] at h
  rcases h with rfl | rfl <;> exact ⟨rfl, _, rfl, by decide⟩

theorem witness_DoneIsReachedOnlyByAnsweredCrcSend :
    let s := sample .finalize 3 (.ok 0)
    s.phase ≠ .done ∧ ∃ t, step s = .next t ∧ t.phase = .done := ⟨by decide, _, rfl, rfl⟩

theorem witness_NoInstructionWritesTheImage :
    ∃ t, exec .hdrEnd (sample .headerDone 0 (.ok 0)) = .next t := ⟨_, rfl⟩

theorem witness_DatapathRegistersHaveTheirWriters :
    ∃ t, exec .keyB (sample .keyExchange 1 (.ok 0)) = .next t := ⟨_, rfl⟩

theorem witness_StatusRegistersHaveTheirWriters :
    ∃ t, exec .recogA (sample .recognize 0 .fail) = .next t := ⟨_, rfl⟩

/-- The three ways a step can go: nothing exchanged, answered, failed. -/
theorem witness_StepAddsAtMostOneExchange :
    ∀ s ∈ [sample .finalize 0 .fail, sample .recognize 0 (.ok 0), sample .recognize 0 .fail], ∃ t, step s = .next t := by
  intro s h
  simp only [List.mem_cons, List.not_mem_nil, or_false] at h
  rcases h with rfl | rfl | rfl <;> exact ⟨_, rfl⟩

theorem witness_NothingIsSentBeforeASession :
    ((sample .done 0 .fail).busy = false ∧ ∃ t, step (sample .done 0 .fail) = .next t) ∧
    ((sample .discovery 0 (.ok 0)).phase = .discovery ∧ ∃ t, step (sample .discovery 0 (.ok 0)) = .next t) ∧
    ((sample .discovery 0 (.ok 0x72026202)).phase = .discovery ∧
      ∃ t, step (sample .discovery 0 (.ok 0x72026202)) = .next t ∧ t.phase = .recognize) :=
  ⟨⟨by decide, _, rfl⟩, ⟨rfl, _, rfl⟩, ⟨rfl, _, rfl, by decide +kernel⟩⟩

theorem witness_AnsweredExchangeFollowsSuccessorTable :
    let s := sample .header 94 (.ok 3)
    s.pollLimit = none ∧ opAt s.phase s.idx = some .hdrUnit ∧ Instr.hdrUnit ≠ .finFold ∧ s.answer = .ok 3 ∧
      ∃ t, exec .hdrUnit s = .next t := ⟨rfl, rfl, by decide, rfl, _, rfl⟩

theorem witness_StepKeepsInvariant :
    SessionInv (sample .length 0 (.ok 0)) ∧ ∃ t, step (sample .length 0 (.ok 0)) = .next t := ⟨inv_length _, _, rfl⟩

theorem witness_InvariantStatesNeverStop : SessionInv (sample .payload 0 (.ok 0)) := inv_payload _

theorem witness_SentWordsDecodeInTheirControlState :
    ∃ t, SessionInv (sample .payload 0 (.ok 0)) ∧ step (sample .payload 0 (.ok 0)) = .next t ∧
      t.sent = (sample .payload 0 (.ok 0)).sent ++ [0x9D43EC24] := by
  refine ⟨_, inv_payload _, rfl, ?_⟩; decide +kernel

/-- At LENGTH the reader need not know `L` yet; at PAYLOAD it must. -/
theorem witness_TrafficReaderFollowsTheBlock :
    (let s := sample .length 0 (.ok 3)
     let c : Cursor := ⟨.length, 0, 0xBE, 0⟩
     SessionInv s ∧ s.pollLimit = none ∧ opAt s.phase s.idx = some .length ∧ s.answer = .ok 3 ∧
       (∃ t, exec .length s = .next t ∧ t.sent = s.sent ++ [0x3FFFFFCC]) ∧ c.phase = s.phase ∧ c.idx = s.idx ∧
       c.off = s.payloadOffset.bits ∧ (s.afterLength = true → c.rounded = s.rounded)) ∧
    (let s := sample .payload 0 (.ok 3)
     let c : Cursor := ⟨.payload, 0, 0xBE, 0xC0⟩
     SessionInv s ∧ s.pollLimit = none ∧ opAt s.phase s.idx = some .payloadWord ∧ s.answer = .ok 3 ∧
       (∃ t, exec .payloadWord s = .next t ∧ t.sent = s.sent ++ [0x9D43EC24]) ∧ c.phase = s.phase ∧ c.idx = s.idx ∧
       c.off = s.payloadOffset.bits ∧ (s.afterLength = true → c.rounded = s.rounded)) := by
  refine ⟨⟨inv_length _, rfl, rfl, rfl, ⟨_, rfl, ?_⟩, rfl, rfl, rfl, fun h => by simp [sample, State.afterLength] at h⟩,
    ⟨inv_payload _, rfl, rfl, rfl, ⟨_, rfl, ?_⟩, rfl, rfl, rfl, fun _ => ?_⟩⟩ <;> decide +kernel

theorem witness_DiscardedResponsesChangeOnlyTheTrace :
    let s := sample .handshake 0 .fail
    responseFormat .handshake = some .ignored ∧ (∃ t1, exec .handshake { s with peer := [.ok 1] } = .next t1) ∧
      ∃ t2, exec .handshake { s with peer := [.ok 2] } = .next t2 := ⟨rfl, ⟨_, rfl⟩, _, rfl⟩

/-- Two responses that differ in every bit outside 23..16. -/
theorem witness_OnlyTheCarriedByteOfAResponseMatters :
    let s := sample .keyExchange 1 .fail
    responseFormat .keyB = some .byteCarrier ∧
      (0x00C70000 : Word).extractLsb' 16 8 = (0xFFC7FFFF : Word).extractLsb' 16 8 ∧
      (∃ t1, exec .keyB { s with peer := [.ok 0x00C70000] } = .next t1) ∧
      ∃ t2, exec .keyB { s with peer := [.ok 0xFFC7FFFF] } = .next t2 := ⟨rfl, by decide, ⟨_, rfl⟩, _, rfl⟩

theorem witness_HeaderPhaseSendsNinetyFiveUnits :
    let rxs : List Word := List.replicate 95 7
    let s := { sample .header 0 .fail with payloadOffset := ⟨0, true⟩, peer := rxs.map LinkResult.ok ++ [LinkResult.fail] }
    s.phase = .header ∧ s.idx = 0 ∧ s.host = [] ∧ s.imgLen.written = true ∧ s.payloadOffset = ⟨0, true⟩ ∧ rxs.length = 95 ∧
      s.peer = rxs.map .ok ++ [.fail] := by refine ⟨rfl, rfl, rfl, rfl, rfl, ?_, rfl⟩; decide +kernel

theorem witness_PayloadPhaseSendsEveryWord :
    let s := sample .payload 0 (.ok 7)
    SessionInv s ∧ s.phase = .payload ∧ s.payloadOffset.bits = 0xBE ∧ s.host = [] ∧ [(7 : Word)].length = payloadWords s.rounded ∧
      s.peer = [(7 : Word)].map .ok ++ [] := by refine ⟨inv_payload _, rfl, rfl, rfl, ?_, rfl⟩; decide +kernel

/-- One payload word: `L = 0xC0`. -/
theorem witness_CooperativeSessionReachesDone :
    let rxs : List Word := List.replicate 104 7
    let s := fresh (.ok 0x72026202 :: rxs.map .ok ++ .ok 0x00750065 :: .ok 1 :: .ok 2 :: [.fail])
    SessionInv s ∧ s.phase = .discovery ∧ s.host = [] ∧ rxs.length = 103 + payloadWords s.rounded := by
  refine ⟨inv_fresh _, rfl, rfl, ?_⟩; decide +kernel

theorem witness_ChecksumFoldFitsSixteenBits : (0xFFFF : Word) ≤ 0x0000FFFF := by decide

theorem witness_KeystreamSeedHasTwoRanges : (0x2F : Byte) ≤ 0x2F ∧ (0x2E : Byte) < 0x2F := by decide

theorem witness_RoundedLengthIsNextMultipleOfSixteen : (0x40000 : Word) ≤ 0x40000 ∧ (0x40000 : Word).toNat % 16 = 0 := by decide

/-- The two clauses meet at `0x190`. -/
theorem witness_LengthWordWrapsBelowTheBias :
    ((0x190 : Word) ≤ 0x40000 ∧ (0x190 : Word).toNat % 16 = 0 ∧ (0x190 : Word) ≤ 0x190) ∧
    ((0x180 : Word) ≤ 0x40000 ∧ (0x180 : Word).toNat % 16 = 0 ∧ (0x180 : Word) < 0x190) := by decide

theorem witness_LengthDivisionSettingsDifferOnlyAtTheTop :
    ((0x190 : Word) ≤ 0x40000 ∧ (0x190 : Word).toNat % 16 = 0 ∧ (0x190 : Word) ≤ 0x190) ∧
    ((0 : Word) ≤ 0x40000 ∧ (0 : Word).toNat % 16 = 0 ∧ (0 : Word) < 0x190) := by decide

theorem witness_ImageReadsPadAndAssembleLowByteFirst : (2 : Word) < 3 ∧ (3 : Word) ≤ 3 := by decide

theorem witness_DecodeOfEncodeIsTheFrame :
    (Frame.mk .hdrUnit 0xFFFF).wf = true ∧ opAt .header 94 = some (Frame.mk .hdrUnit 0xFFFF).instr := by decide +kernel

theorem witness_EncodeOfDecodeIsTheBytes :
    decode .handshake 0 [0, 0, 0x64, 0xFF, 9] = .ok (⟨.handshake, 0xFF⟩, [9]) := by decide +kernel

theorem witness_StatusCodesReadBack : (12 : BitVec 4) ≤ 12 ∧ (5 : BitVec 3) ≤ 5 := by decide

end Sys2Proof.Tests
end

/-! ## Proofs of the statements of `10_state.md` -/

/-! ### The control states of the operations -/

namespace Sys2Proof.Machine

/-- The table of R30 row by row: the operation performed in control state `(p, n)`, for case analysis. -/
inductive Performs (p : Phase) (n : BitVec 7) : Instr → Prop where
  | pollDiscover (hp : p = .discovery) (hn : n = 0) : Performs p n .pollDiscover
  | recogA (hp : p = .recognize) (hn : n = 0) : Performs p n .recogA
  | recogB (hp : p = .recognize) (hn : n = 1) : Performs p n .recogB
  | hdrUnit (hp : p = .header) (hn : n.toNat < 95) : Performs p n .hdrUnit
  | hdrEnd (hp : p = .headerDone) (hn : n = 0) : Performs p n .hdrEnd
  | infoAgain (hp : p = .headerDone) (hn : n = 1) : Performs p n .infoAgain
  | keyA (hp : p = .keyExchange) (hn : n = 0) : Performs p n .keyA
  | keyB (hp : p = .keyExchange) (hn : n = 1) : Performs p n .keyB
  | handshake (hp : p = .handshake) (hn : n = 0) : Performs p n .handshake
  | length (hp : p = .length) (hn : n = 0) : Performs p n .length
  | payloadWord (hp : p = .payload) (hn : n = 0) : Performs p n .payloadWord
  | finFold (hp : p = .finalize) (hn : n = 0) : Performs p n .finFold
  | pollCrc (hp : p = .finalize) (hn : n = 1) : Performs p n .pollCrc
  | crcAck (hp : p = .finalize) (hn : n = 2) : Performs p n .crcAck
  | crcSend (hp : p = .finalize) (hn : n = 3) : Performs p n .crcSend

/-- The case analysis is the model's table. -/
theorem opAt_iff_performs {p : Phase} {n : BitVec 7} {i : Instr} : opAt p n = some i ↔ Performs p n i := by
  constructor
  · intro h
    cases p <;> simp only [opAt] at h <;> repeat' split at h
    all_goals cases h
    all_goals constructor <;> simp_all [params]
  · intro h
    cases h <;> simp_all [opAt, params]

/-- What an exchanging operation makes of the answer `rx`, after its exchange (R100, R128 to R143, R200 to R212). The rows
that exchange nothing of their own make nothing of it. -/
def afterExchange (i : Instr) (s : State) (rx : Word) : State :=
  match i with
  | .pollDiscover => if rx = params.rspDiscover then s.goto .recognize 0 else s.pollMissed
  | .recogA => { s with idx := 1 }
  | .recogB => s.goto .header 0
  | .hdrUnit => s.afterUnit s.payloadOffset.bits
  | .hdrEnd => { s with idx := 1 }
  | .infoAgain => s.goto .keyExchange 0
  | .keyA => { s with idx := 1 }
  | .keyB => (s.latchKey (lcgSeed (carriedByte rx)) (hhOf (carriedByte rx))).goto .handshake 0
  | .handshake => s.goto .length 0
  | .length =>
    (s.latchFinalizer (finalizerSeed (carriedByte rx) s.hh.bits)).gotoPayloadOrFinalize s.payloadOffset.bits s.imgLen.bits
  | .payloadWord => s.afterWord s.payloadOffset.bits s.imgLen.bits
  | .pollCrc => if rx = params.rspCrcReady then { s with idx := 2 } else s.pollMissed
  | .crcAck => { s with idx := 3 }
  | .crcSend => s.discardSession.goto .done 0
  | .start _ | .finFold | .abort | .reset | .exchange _ | .waitUntil _ _ | .crcFold _ _ | .lcgSeed _ | .lcgNext _ | .negate _
  | .cipherMask _ _ | .cipherXor _ _ _ => s

/-! The writes before an exchange are `PAYLOAD_WORD`'s to checksum and keystream (R231); the fields below they leave. -/

@[simp] theorem phase_beforeExchange (i : Instr) (s : State) : (beforeExchange i s).phase = s.phase := by
  unfold beforeExchange; split <;> rfl
@[simp] theorem idx_beforeExchange (i : Instr) (s : State) : (beforeExchange i s).idx = s.idx := by
  unfold beforeExchange; split <;> rfl
@[simp] theorem sent_beforeExchange (i : Instr) (s : State) : (beforeExchange i s).sent = s.sent := by
  unfold beforeExchange; split <;> rfl
@[simp] theorem peer_beforeExchange (i : Instr) (s : State) : (beforeExchange i s).peer = s.peer := by
  unfold beforeExchange; split <;> rfl
@[simp] theorem err_beforeExchange (i : Instr) (s : State) : (beforeExchange i s).err = s.err := by
  unfold beforeExchange; split <;> rfl
@[simp] theorem failPhase_beforeExchange (i : Instr) (s : State) : (beforeExchange i s).failPhase = s.failPhase := by
  unfold beforeExchange; split <;> rfl
@[simp] theorem failIdx_beforeExchange (i : Instr) (s : State) : (beforeExchange i s).failIdx = s.failIdx := by
  unfold beforeExchange; split <;> rfl
@[simp] theorem imgLen_beforeExchange (i : Instr) (s : State) : (beforeExchange i s).imgLen = s.imgLen := by
  unfold beforeExchange; split <;> rfl
@[simp] theorem pollCount_beforeExchange (i : Instr) (s : State) : (beforeExchange i s).pollCount = s.pollCount := by
  unfold beforeExchange; split <;> rfl
@[simp] theorem pollLimit_beforeExchange (i : Instr) (s : State) : (beforeExchange i s).pollLimit = s.pollLimit := by
  unfold beforeExchange; split <;> rfl
@[simp] theorem host_beforeExchange (i : Instr) (s : State) : (beforeExchange i s).host = s.host := by
  unfold beforeExchange; split <;> rfl

@[simp] theorem answer_beforeExchange (i : Instr) (s : State) : (beforeExchange i s).answer = s.answer :=
  State.answer_congr (peer_beforeExchange i s) (sent_beforeExchange i s)

theorem beforeExchange_eq {i : Instr} (hi : i ≠ .payloadWord) (s : State) : beforeExchange i s = s := by
  simp [beforeExchange, hi]

/-- Every operation but `FIN_FOLD` that answers next has exchanged the word of its row and made of the answer what its row
says. -/
theorem exec_op_next {i : Instr} {s t : State} (ho : opAt s.phase s.idx = some i) (hi : i ≠ .finFold)
    (h : exec i s = .next t) :
    ∃ tx, sentWord s i = some tx ∧ t = (beforeExchange i s).exchange tx (afterExchange i) := by
  cases opAt_iff_performs.mp ho with
  | finFold => exact absurd rfl hi
  | pollDiscover | pollCrc =>
    obtain ⟨-, h⟩ := performedAt_next.mp h
    cases withPollCount_next h
    exact ⟨_, rfl, rfl⟩
  | recogA | recogB | hdrEnd | infoAgain | keyA | keyB | crcAck =>
    cases (performedAt_next.mp h).2
    exact ⟨_, rfl, rfl⟩
  | hdrUnit =>
    simp only [exec, execHdrUnit, performedAt_next, Reg.get_next, Host.Outcome.next.injEq] at h
    obtain ⟨-, -, -, rfl⟩ := h
    exact ⟨_, rfl, rfl⟩
  | handshake =>
    simp only [exec, execHandshake, performedAt_next, Reg.get_next, Host.Outcome.next.injEq] at h
    obtain ⟨-, -, rfl⟩ := h
    exact ⟨_, rfl, rfl⟩
  | length =>
    simp only [exec, execLength, performedAt_next, Reg.get_next, State.getAfter_next, Host.Outcome.next.injEq] at h
    obtain ⟨-, -, -, -, rfl⟩ := h
    exact ⟨_, rfl, rfl⟩
  | payloadWord =>
    simp only [exec, execPayloadWord, performedAt_next, Reg.get_next, Host.Outcome.next.injEq] at h
    obtain ⟨-, -, -, -, -, rfl⟩ := h
    exact ⟨_, rfl, rfl⟩
  | crcSend =>
    simp only [exec, execCrcSend, performedAt_next, Reg.get_next, Host.Outcome.next.injEq] at h
    obtain ⟨-, -, rfl⟩ := h
    exact ⟨_, rfl, rfl⟩

/-- `FIN_FOLD` folds the finalizer and clears the count; it exchanges nothing (R208). -/
theorem exec_finFold_next {s t : State} (h : exec .finFold s = .next t) :
    t = (s.foldFinal (crcFold s.checksum.bits s.checksumFinalizer.bits)).clearPollCount := by
  simp only [exec, execFinFold, performedAt_next, Reg.get_next, Host.Outcome.next.injEq] at h
  obtain ⟨-, -, -, rfl⟩ := h
  rfl

end Sys2Proof.Machine

/-! ### Ranges of the computed registers (R45) -/

namespace Sys2Proof.Machine

/-- One iteration shifts the top bit out and feeds back 16 bits at most (R162). -/
theorem crcStep_fst_lt {c : Word} (d : Word) {k : Nat} (h : c.toNat < 2 ^ (16 + k)) :
    (crcStep (c, d)).1.toNat < 2 ^ (16 + (k - 1)) := by
  have hle : 2 ^ 16 ≤ 2 ^ (16 + (k - 1)) := Nat.pow_le_pow_right (by decide) (by omega)
  have hshift : (c >>> 1).toNat < 2 ^ (16 + (k - 1)) := by
    rw [BitVec.toNat_ushiftRight, Nat.shiftRight_eq_div_pow]
    cases k with
    | zero => exact Nat.lt_of_le_of_lt (Nat.div_le_self _ _) h
    | succ k => rw [← Nat.add_assoc, Nat.pow_succ] at h; exact Nat.div_lt_of_lt_mul (by simpa [Nat.mul_comm] using h)
  rw [crcStep_fst, BitVec.toNat_xor]
  refine Nat.xor_lt_two_pow hshift (Nat.lt_of_lt_of_le ?_ hle)
  split <;> decide

/-- After `n` iterations the accumulator has lost `n` of the bits it had above its low 16 (R163). -/
theorem crcIterate_fst_lt (n : Nat) {c : Word} (d : Word) {k : Nat} (h : c.toNat < 2 ^ (16 + k)) :
    (crcIterate n (c, d)).1.toNat < 2 ^ (16 + (k - n)) := by
  induction n generalizing c d k with
  | zero => exact h
  | succ n ih =>
    have := ih (crcStep (c, d)).2 (crcStep_fst_lt d h)
    rwa [Nat.sub_sub, Nat.add_comm 1] at this

/-- The fold of any accumulator fits 16 bits (R163). -/
theorem crcFold_le (acc w : Word) : crcFold acc w ≤ 0xFFFF := by
  have h := crcIterate_fst_lt 32 w (k := 16) acc.isLt
  exact BitVec.le_def.mpr (Nat.le_of_lt_succ h)

/-- The range of `hh` (R25, R45 item 4). -/
theorem hhOf_range (b : Byte) : 0x0F ≤ hhOf b ∧ hhOf b ≤ 0x10E := by
  have := hhOf_toNat b
  have := b.isLt
  constructor <;> rw [BitVec.le_def] <;> simp <;> omega

/-- The two ranges of the seed (R45 item 6, R176). -/
theorem lcgSeed_range (b : Byte) : lcgSeed b ≤ 0xD0 ∨ 0xFFFFFFD1 ≤ lcgSeed b := by
  have := lcgSeed_toNat b
  have := b.isLt
  rw [BitVec.le_def, BitVec.le_def]
  simp
  omega

/-- The range of the finalizer seed (R143, R45 item 5): the low half cannot carry into the ones above it. -/
theorem finalizerSeed_range (b : Byte) {hh : Word} (h : 0x0F ≤ hh ∧ hh ≤ 0x10E) :
    0xFFFF000F ≤ finalizerSeed b hh ∧ finalizerSeed b hh ≤ 0xFFFF020D := by
  obtain ⟨hlo, hhi⟩ := h
  have hb := b.isLt
  simp only [BitVec.le_def, BitVec.reduceToNat] at hlo hhi ⊢
  have hsum : (zext32 b + hh).toNat = b.toNat + hh.toNat := by
    simp only [BitVec.toNat_add, BitVec.toNat_setWidth]
    omega
  have hseed : (finalizerSeed b hh).toNat = 2 ^ 16 * 0xFFFF + (b.toNat + hh.toNat) := by
    rw [Nat.two_pow_add_eq_or_of_lt (by omega), ← hsum, Nat.or_comm, finalizerSeed, BitVec.toNat_or]
    rfl
  omega

end Sys2Proof.Machine

/-! ### The rounded length (R26) -/

namespace Sys2Proof.Machine

/-- Clearing the low four bits is rounding down to a multiple of 16 (R26). -/
theorem and_not_fifteen_toNat (x : Word) : (x &&& 0xFFFFFFF0).toNat = x.toNat / 16 * 16 := by
  have hmask : ∀ i : Fin 32, (0xFFFFFFF0 : Word)[i] = decide (4 ≤ i.val) := by decide
  have hshift : x &&& (0xFFFFFFF0 : Word) = x >>> 4 <<< 4 := by
    ext i hi
    have := hmask ⟨i, hi⟩
    by_cases h : 4 ≤ i <;> simp_all
  rw [hshift, BitVec.toNat_shiftLeft, BitVec.toNat_ushiftRight, Nat.shiftRight_eq_div_pow, Nat.shiftLeft_eq]
  omega

theorem roundedLength_eq (len : Word) : roundedLength len = (len + 15) &&& 0xFFFFFFF0 := rfl

/-- `L` as a natural, for a legal length (R26). -/
theorem roundedLength_toNat {len : Word} (h : len ≤ 0x40000) : (roundedLength len).toNat = (len.toNat + 15) / 16 * 16 := by
  rw [roundedLength_eq, and_not_fifteen_toNat]
  bv_omega

/-- `L` is a multiple of 16 and at most `0x40000`: the facts the offset's laws need (R205). -/
theorem roundedLength_bounds {len : Word} (h : len ≤ 0x40000) :
    (roundedLength len).toNat % 16 = 0 ∧ (roundedLength len).toNat ≤ 0x40000 := by
  rw [roundedLength_toNat h]
  bv_omega

/-- Settles O51: as naturals, `L` is the quotient rounded up, times 16. -/
theorem roundedLengthIsNextMultipleOfSixteen : Obligations.RoundedLengthIsNextMultipleOfSixteen := by
  unfold Obligations.RoundedLengthIsNextMultipleOfSixteen
  intro len h
  have hL := roundedLength_toNat h
  refine ⟨hL, BitVec.le_def.mpr (roundedLength_bounds h).2, fun hmod => BitVec.eq_of_toNat_eq ?_⟩
  omega

end Sys2Proof.Machine

/-! ### The invariant (R45): its part that no control state bears on -/

namespace Sys2Proof.Machine

/-- What the invariant says of a running session's registers whatever the control state. -/
structure SessionRegs (s : State) : Prop where
  image : s.image.wf = true
  limit : s.pollLimit ≠ some 0
  err : s.err = .noError
  lengthHeld : s.imgLen.written = true
  checksumHeld : s.checksum.written = true
  offsetHeld : s.payloadOffset.written = true
  lengthRange : s.imgLen.bits ≤ 0x40000
  checksumRange : s.checksum.bits ≤ 0xFFFF
  hhRange : s.hh.written = true → 0x0F ≤ s.hh.bits ∧ s.hh.bits ≤ 0x10E
  finalizerRange : s.checksumFinalizer.written = true →
    0xFFFF000F ≤ s.checksumFinalizer.bits ∧ s.checksumFinalizer.bits ≤ 0xFFFF020D

/-- What the invariant says of a running session's control state and of the registers that depend on it. -/
structure SessionPlace (s : State) : Prop where
  busy : s.busy = true
  control : controlLegal s.phase s.idx = true
  keys : s.afterKey = true → s.keystreamState.written = true ∧ s.hh.written = true
  finalizer : s.afterLength = true → s.checksumFinalizer.written = true
  offset : s.offsetOk
  seedRange : s.phase = .handshake ∨ s.phase = .length →
    s.keystreamState.bits ≤ 0xD0 ∨ 0xFFFFFFD1 ≤ s.keystreamState.bits
  pollCount : s.polling = true → ∀ k, s.pollLimit = some k → s.pollCount.written = true ∧ s.pollCount.bits < k

/-- The session registers are in use exactly while the block is busy (R32). -/
theorem inSession_eq_busy (s : State) : s.inSession = s.busy := by
  unfold State.inSession State.busy
  cases s.phase <;> rfl

theorem busy_ne_failed {s : State} (h : s.busy = true) : s.phase ≠ .failed := by
  intro hp
  simp [State.busy, hp, Phase.resting] at h

/-- In a running session the invariant is its two parts. -/
theorem sessionInv_iff_of_busy {s : State} (hb : s.busy = true) : SessionInv s ↔ SessionRegs s ∧ SessionPlace s := by
  have hf := busy_ne_failed hb
  constructor
  · intro h
    obtain ⟨hlen, hsum, hoff, hrange⟩ := h.session (by rwa [inSession_eq_busy])
    constructor
    · exact {
        image := h.image, limit := h.limit, err := not_not.mp (mt h.err.mp hf)
        lengthHeld := hlen, checksumHeld := hsum, offsetHeld := hoff, lengthRange := hrange
        checksumRange := h.checksumRange hsum, hhRange := h.hhRange, finalizerRange := h.finalizerRange }
    · exact {
        busy := hb, control := h.control, keys := h.keys, finalizer := h.finalizer, offset := h.offset
        seedRange := h.seedRange, pollCount := h.pollCount }
  · rintro ⟨hr, hp⟩
    exact {
      image := hr.image, limit := hr.limit, err := by simp [hr.err, hf], failRecord := fun h => absurd h hf
      session := fun _ => ⟨hr.lengthHeld, hr.checksumHeld, hr.offsetHeld, hr.lengthRange⟩
      checksumRange := fun _ => hr.checksumRange, hhRange := hr.hhRange, finalizerRange := hr.finalizerRange
      control := hp.control, keys := hp.keys, finalizer := hp.finalizer, offset := hp.offset
      seedRange := hp.seedRange, pollCount := hp.pollCount }

theorem SessionInv.regs {s : State} (h : SessionInv s) (hb : s.busy = true) : SessionRegs s :=
  ((sessionInv_iff_of_busy hb).mp h).1

theorem SessionRegs.inv {s : State} (hr : SessionRegs s) (hp : SessionPlace s) : SessionInv s :=
  (sessionInv_iff_of_busy hp.busy).mpr ⟨hr, hp⟩

/-! ### The invariant and the shared operations -/

/-- The invariant does not look at the host's schedule. -/
theorem SessionInv.passBoundary_keeps {s : State} (h : SessionInv s) : SessionInv s.passBoundary := { h with }

/-- Nor at the records of the link. -/
theorem SessionInv.exchanged_keeps {s : State} (h : SessionInv s) (tx rx : Word) :
    SessionInv ((s.handOver tx).traceExchange tx rx) := { h with }

/-- A state without a session needs little: the session registers hold no value (R230, R250, log 25). -/
theorem sessionInv_of_resting {s : State} (hp : s.phase.resting = true) (hi : s.idx = 0) (himage : s.image.wf = true)
    (hlimit : s.pollLimit ≠ some 0) (herr : s.err ≠ .noError ↔ s.phase = .failed)
    (hrecord : s.phase = .failed → s.failPhase.written = true ∧ s.failIdx.written = true)
    (hlost : s.checksum.written = false ∧ s.hh.written = false ∧ s.checksumFinalizer.written = false) : SessionInv s := by
  obtain ⟨hc, hh, hf⟩ := hlost
  have hcases : s.phase = .idle ∨ s.phase = .done ∨ s.phase = .failed := by
    revert hp; cases s.phase <;> simp [Phase.resting]
  exact {
    control := by simp [controlLegal, hp, hi]
    image := himage
    limit := hlimit
    err := herr
    failRecord := hrecord
    session := fun h => by simp [inSession_eq_busy, State.busy, hp] at h
    keys := fun h => by rcases hcases with h' | h' | h' <;> simp [State.afterKey, h'] at h
    finalizer := fun h => by rcases hcases with h' | h' | h' <;> simp [State.afterLength, h'] at h
    checksumRange := fun h => by simp [hc] at h
    offset := by rcases hcases with h' | h' | h' <;> simp [State.offsetOk, h']
    hhRange := fun h => by simp [hh] at h
    finalizerRange := fun h => by simp [hf] at h
    seedRange := fun h => by rcases hcases with h' | h' | h' <;> simp [h'] at h
    pollCount := fun h => by rcases hcases with h' | h' | h' <;> simp [State.polling, h'] at h }

/-- Every failure leads to a state of the invariant (R230). -/
theorem sessionInv_enterFailed {s : State} (himage : s.image.wf = true) (hlimit : s.pollLimit ≠ some 0) {k : ErrKind}
    (hk : k ≠ .noError) (p : Phase) (n : BitVec 7) : SessionInv (s.enterFailed k p n) :=
  sessionInv_of_resting rfl rfl himage hlimit (by simp [hk]) (by simp) (by simp)

theorem sessionInv_raise {s : State} (himage : s.image.wf = true) (hlimit : s.pollLimit ≠ some 0) {k : ErrKind}
    (hk : k ≠ .noError) : SessionInv (s.raise k) := sessionInv_enterFailed himage hlimit hk _ _

/-- RESET does so from any state (R250). -/
theorem sessionInv_resetBlock {s : State} (himage : s.image.wf = true) (hlimit : s.pollLimit ≠ some 0) :
    SessionInv s.resetBlock := sessionInv_of_resting rfl rfl himage hlimit (by simp) (by simp) (by simp)

/-- Settles O34: nothing holds a value after reset, so there is little to keep. -/
theorem invariantHoldsAtReset : Obligations.InvariantHoldsAtReset :=
  sessionInv_of_resting rfl rfl rfl (by simp [State.reset]) (by simp [State.reset]) (by simp [State.reset])
    (by simp [State.reset])

/-- A count that has just been cleared is below every limit (R113). -/
theorem clearPollCount_below {s : State} (hlimit : s.pollLimit ≠ some 0) (k : Nat) (hk : s.clearPollCount.pollLimit = some k) :
    s.clearPollCount.pollCount.written = true ∧ s.clearPollCount.pollCount.bits < k := by
  have hk' : s.pollLimit = some k := by simpa using hk
  have hpos : 0 < k := Nat.pos_of_ne_zero fun h0 => hlimit (h0 ▸ hk')
  simp [hk', hpos]

/-- A legal START begins a session in the invariant (R125). -/
theorem sessionInv_beginSession {s : State} (himage : s.image.wf = true) (hlimit : s.pollLimit ≠ some 0) {len : Word}
    (hlen : len ≤ 0x40000) : SessionInv (s.beginSession len) := by
  have hregs : SessionRegs (s.beginSession len) := by
    constructor <;> simp [State.beginSession, params, himage, hlimit]
    exact hlen
  refine hregs.inv ?_
  exact {
    busy := rfl
    control := rfl
    keys := fun h => by simp [State.beginSession, State.afterKey] at h
    finalizer := fun h => by simp [State.beginSession, State.afterLength] at h
    offset := by simp [State.beginSession, State.offsetOk]
    seedRange := fun h => by simp [State.beginSession] at h
    pollCount := fun _ => clearPollCount_below hlimit }

/-- An exchange keeps the invariant where its continuation does: a failed one leads to FAILED (R224). -/
theorem SessionInv.exchange_keeps {s : State} (h : SessionInv s) (tx : Word) {rest : State → Word → State}
    (hrest : ∀ rx, SessionInv (rest ((s.handOver tx).traceExchange tx rx) rx)) : SessionInv (s.exchange tx rest) := by
  rcases s.exchange_cases tx rest with ⟨rx, -, e⟩ | ⟨-, e⟩
  · exact e ▸ hrest rx
  · exact e ▸ sessionInv_raise (s := s.handOver tx) h.image h.limit nofun

/-- A miss keeps it: the count stays below the limit or the session ends (R113). -/
theorem SessionInv.pollMissed_keeps {s : State} (h : SessionInv s) (hpoll : s.polling = true) : SessionInv s.pollMissed := by
  cases hl : s.pollLimit with
  | none => rwa [State.pollMissed_noLimit hl]
  | some k =>
    rw [State.pollMissed_limit hl]
    split
    · exact sessionInv_raise (by exact h.image) (by exact h.limit) nofun
    · rename_i hne
      have hlt := (h.pollCount hpoll k hl).2
      refine { h with pollCount := fun _ k' hk' => ⟨rfl, ?_⟩ }
      have : k' = k := Option.some.inj (hk'.symm.trans hl)
      simp only [Reg.bits_held]
      omega

end Sys2Proof.Machine

/-! ### The invariant and the operations -/

namespace Sys2Proof.Machine

/-! Register writes that keep the ranges. -/

theorem SessionRegs.goto {s : State} (h : SessionRegs s) (p : Phase) (n : BitVec 7) : SessionRegs (s.goto p n) := { h with }

theorem SessionRegs.setOffset {s : State} (h : SessionRegs s) (off : Word) : SessionRegs (s.setOffset off) :=
  { h with offsetHeld := rfl }

theorem SessionRegs.latchKey {s : State} (h : SessionRegs s) (key : Word) (b : Byte) :
    SessionRegs (s.latchKey key (hhOf b)) := { h with hhRange := fun _ => hhOf_range b }

theorem SessionRegs.latchFinalizer {s : State} (h : SessionRegs s) (hh : s.hh.written = true) (b : Byte) :
    SessionRegs (s.latchFinalizer (finalizerSeed b s.hh.bits)) :=
  { h with finalizerRange := fun _ => finalizerSeed_range b (h.hhRange hh) }

theorem SessionRegs.gotoPayloadOrFinalize {s : State} (h : SessionRegs s) (off len : Word) :
    SessionRegs (s.gotoPayloadOrFinalize off len) := by
  unfold State.gotoPayloadOrFinalize
  split
  · exact h.goto _ _
  · exact h.goto _ _

theorem SessionRegs.foldFinal {s : State} (h : SessionRegs s) (w : Word) :
    SessionRegs (s.foldFinal (crcFold s.checksum.bits w)) :=
  { h with checksumHeld := rfl, checksumRange := crcFold_le _ _ }

theorem SessionRegs.clearPollCount {s : State} (h : SessionRegs s) : SessionRegs s.clearPollCount := by
  unfold State.clearPollCount
  split
  · exact h
  · exact { h with }

/-- Between DISCOVERY and `KEY_B` a control state asks for the offset only. -/
theorem SessionRegs.goto_beforeKey {s : State} (h : SessionRegs s) {p : Phase} {n : BitVec 7}
    (hp : p ∈ [.recognize, .header, .headerDone, .keyExchange]) (hn : controlLegal p n = true)
    (hoff : (s.goto p n).offsetOk) : SessionInv (s.goto p n) := by
  simp only [List.mem_cons, List.not_mem_nil, or_false] at hp
  rcases hp with rfl | rfl | rfl | rfl <;>
    exact (h.goto _ n).inv
      { busy := rfl, control := hn, offset := hoff, keys := nofun, finalizer := nofun,
        seedRange := by simp, pollCount := by simp [State.polling] }

/-- Where the offset must stand hangs on the phase and the length, and in HEADER on `idx`. -/
theorem offsetOk_of_same {s t : State} (hp : t.phase = s.phase) (hi : s.phase = .header → t.idx = s.idx)
    (ho : t.payloadOffset.bits = s.payloadOffset.bits) (hl : t.imgLen.bits = s.imgLen.bits) (h : s.offsetOk) :
    t.offsetOk := by
  have hr : t.rounded = s.rounded := congrArg roundedLength hl
  unfold State.offsetOk at h ⊢
  rw [hp, ho, hr]
  cases hq : s.phase with
  | header => rw [hq] at h; rw [hi hq]; exact h
  | _ => rw [hq] at h; exact h

/-- Outside HEADER nothing but the poll count hangs on `idx`, and that only at POLL_CRC. -/
theorem SessionInv.setIdx_keeps {s : State} (h : SessionInv s) (hb : s.busy = true) (hp : s.phase ≠ .header) {n : BitVec 7}
    (hn : (opAt s.phase n).isSome = true) (hpoll : n ≠ 1 ∨ s.phase ≠ .finalize) : SessionInv { s with idx := n } := by
  have hrest : s.phase.resting = false := by simpa [State.busy] using hb
  refine { h with control := ?_, offset := ?_, pollCount := ?_ }
  · simp [controlLegal, hrest, hn]
  · exact offsetOk_of_same (s := s) rfl (fun hq => absurd hq hp) rfl rfl h.offset
  · intro hpolling
    refine h.pollCount ?_
    simp only [State.polling, decide_eq_true_eq] at hpolling ⊢
    rcases hpolling with hd | ⟨hf, h1⟩
    · exact .inl hd
    · rcases hpoll with hne | hne
      · exact absurd h1 hne
      · exact absurd hf hne

/-- The loop test: below `L` the payload goes on at an offset that is 2 modulo 4, at `L` the offset is the one of FINALIZE
(R148, R205). -/
theorem sessionPlace_gotoPayloadOrFinalize {s : State} {off len : Word}
    (hkeys : s.keystreamState.written = true ∧ s.hh.written = true) (hfin : s.checksumFinalizer.written = true)
    (hoff : s.payloadOffset.bits = off) (hlen : s.imgLen.bits = len) (hpayload : 0xBE ≤ off ∧ off.toNat % 4 = 2)
    (hfinal : ¬off < roundedLength len → off = if roundedLength len ≤ 0xBE then 0xBE else roundedLength len + 2) :
    SessionPlace (s.gotoPayloadOrFinalize off len) := by
  unfold State.gotoPayloadOrFinalize
  split
  next hlt =>
    exact {
      busy := rfl
      control := rfl
      keys := fun _ => hkeys
      finalizer := fun _ => hfin
      offset := by subst hoff hlen; exact ⟨hpayload.1, hpayload.2, hlt⟩
      seedRange := fun h => by simp at h
      pollCount := fun h => by simp [State.polling] at h }
  next hge =>
    exact {
      busy := rfl
      control := rfl
      keys := fun _ => hkeys
      finalizer := fun _ => hfin
      offset := by simpa [State.offsetOk, State.rounded, hoff, hlen] using hfinal hge
      seedRange := fun h => by simp at h
      pollCount := fun h => by simp [State.polling] at h }

/-- The writes before an exchange keep the invariant: `PAYLOAD_WORD` folds a word into the checksum and steps the keystream. -/
theorem SessionInv.beforeExchange_keeps {s : State} {i : Instr} (h : SessionInv s) (ho : opAt s.phase s.idx = some i) :
    SessionInv (beforeExchange i s) := by
  by_cases hi : i = .payloadWord
  · subst hi
    obtain ⟨hp, hn⟩ : s.phase = .payload ∧ s.idx = 0 := by
      cases opAt_iff_performs.mp ho with | payloadWord hp hn => exact ⟨hp, hn⟩
    refine { h with session := ?_, keys := ?_, checksumRange := ?_, seedRange := ?_ }
    · intro hs
      obtain ⟨hlen, -, hrest⟩ := h.session hs
      exact ⟨hlen, rfl, hrest⟩
    · exact fun hs => ⟨rfl, (h.keys hs).2⟩
    · exact fun _ => crcFold_le _ _
    · rintro (hs | hs) <;> exact absurd (hp.symm.trans hs) nofun
  · rwa [beforeExchange_eq hi]

/-- `HDR_UNIT` moves two bytes on: the 95th unit ends at offset `0xBE` (R200, R202). -/
theorem SessionInv.afterUnit_keeps {s : State} (h : SessionInv s) (hp : s.phase = .header) (hn : s.idx.toNat < 95) :
    SessionInv (s.afterUnit s.payloadOffset.bits) := by
  have hb : s.busy = true := by simp [State.busy, hp, Phase.resting]
  have hoff : s.payloadOffset.bits = 2 * s.idx.setWidth 32 := by simpa [State.offsetOk, hp] using h.offset
  have hregs := (h.regs hb).setOffset (s.payloadOffset.bits + params.headerUnitBytes)
  unfold State.afterUnit
  split
  next hlast =>
    have hidx : s.idx = 94 := BitVec.eq_of_toNat_eq (by simp [params] at hlast; simpa using hlast)
    exact hregs.goto_beforeKey (by decide) rfl (by simp [State.offsetOk, hoff, hidx, params])
  next hmore =>
    simp only [params] at hmore
    refine SessionRegs.inv { hregs with } ?_
    exact {
      busy := hb
      control := by simp [controlLegal, hp, Phase.resting, opAt, params]; omega
      keys := fun h => by simp [State.afterKey, hp] at h
      finalizer := fun h => by simp [State.afterLength, hp] at h
      offset := by
        simp only [State.offsetOk, State.phase_setOffset, hp, State.payloadOffset_setOffset, Reg.bits_held, hoff, params]
        bv_omega
      seedRange := fun h => by simp [hp] at h
      pollCount := fun h => by simp [State.polling, hp] at h }

/-- In PAYLOAD the offset is 2 modulo 4, from `0xBE` up to below `L` (R205). -/
theorem SessionInv.payload_offset {s : State} (h : SessionInv s) (hp : s.phase = .payload) :
    0xBE ≤ s.payloadOffset.bits ∧ s.payloadOffset.bits.toNat % 4 = 2 ∧ s.payloadOffset.bits < s.rounded := by
  simpa [State.offsetOk, hp] using h.offset

/-- `PAYLOAD_WORD` moves four bytes on: the last word ends at `L + 2` (R205). -/
theorem SessionInv.afterWord_keeps {s : State} (h : SessionInv s) (hp : s.phase = .payload) :
    SessionInv (s.afterWord s.payloadOffset.bits s.imgLen.bits) := by
  have hb : s.busy = true := by simp [State.busy, hp, Phase.resting]
  have hregs := h.regs hb
  obtain ⟨hlow, hmod, hbelow⟩ := h.payload_offset hp
  obtain ⟨hL16, hLmax⟩ := roundedLength_bounds hregs.lengthRange
  simp only [State.rounded] at hbelow
  refine ((hregs.setOffset _).gotoPayloadOrFinalize _ _).inv
    (sessionPlace_gotoPayloadOrFinalize (h.keys (by simp [State.afterKey, hp])) (h.finalizer (by simp [State.afterLength, hp]))
      rfl rfl ?_ ?_)
  · simp only [params]; bv_omega
  · simp only [params]
    intro hge
    rw [if_neg (by bv_omega)]
    bv_omega

/-- `LENGTH` latches the finalizer and goes to the payload, or to FINALIZE where there is none (R143). -/
theorem SessionInv.afterLength_keeps {s : State} (h : SessionInv s) (hp : s.phase = .length) (rx : Word) :
    SessionInv (afterExchange .length s rx) := by
  have hb : s.busy = true := by simp [State.busy, hp, Phase.resting]
  have hregs := h.regs hb
  have hkeys := h.keys (by simp [State.afterKey, hp])
  have hoff : s.payloadOffset.bits = 0xBE := by simpa [State.offsetOk, hp] using h.offset
  refine ((hregs.latchFinalizer hkeys.2 _).gotoPayloadOrFinalize _ _).inv
    (sessionPlace_gotoPayloadOrFinalize hkeys rfl rfl rfl ?_ ?_)
  · rw [hoff]; decide
  · intro hge
    rw [hoff] at hge ⊢
    rw [if_pos (by bv_omega)]

/-- An operation's use of the answer keeps the invariant. -/
theorem SessionInv.afterExchange_keeps {s : State} {i : Instr} (h : SessionInv s) (ho : opAt s.phase s.idx = some i) (rx : Word) :
    SessionInv (afterExchange i s rx) := by
  have hb := opAt_busy ho
  have hregs := h.regs hb
  cases opAt_iff_performs.mp ho with
  | pollDiscover hp hn =>
    have hoff : s.payloadOffset.bits = 0 := by simpa [State.offsetOk, hp] using h.offset
    simp only [afterExchange]
    split
    · exact hregs.goto_beforeKey (by decide) rfl hoff
    · exact h.pollMissed_keeps (by simp [State.polling, hp])
  | recogA hp hn => exact h.setIdx_keeps hb (by simp [hp]) (by simp [hp, opAt]) (by simp [hp])
  | recogB hp hn =>
    have hoff : s.payloadOffset.bits = 0 := by simpa [State.offsetOk, hp] using h.offset
    exact hregs.goto_beforeKey (by decide) rfl hoff
  | hdrUnit hp hn => exact h.afterUnit_keeps hp hn
  | hdrEnd hp hn => exact h.setIdx_keeps hb (by simp [hp]) (by simp [hp, opAt]) (by simp [hp])
  | infoAgain hp hn =>
    have hoff : s.payloadOffset.bits = 0xBE := by simpa [State.offsetOk, hp] using h.offset
    exact hregs.goto_beforeKey (by decide) rfl hoff
  | keyA hp hn => exact h.setIdx_keeps hb (by simp [hp]) (by simp [hp, opAt]) (by simp [hp])
  | keyB hp hn =>
    have hoff : s.payloadOffset.bits = 0xBE := by simpa [State.offsetOk, hp] using h.offset
    refine ((hregs.latchKey _ _).goto _ _).inv ⟨rfl, rfl, fun _ => ⟨rfl, rfl⟩, ?_, hoff, fun _ => lcgSeed_range _, ?_⟩ <;>
      simp [State.afterLength, State.polling]
  | handshake hp hn =>
    have hoff : s.payloadOffset.bits = 0xBE := by simpa [State.offsetOk, hp] using h.offset
    refine (hregs.goto _ _).inv
      ⟨rfl, rfl, fun _ => h.keys (by simp [State.afterKey, hp]), ?_, hoff, fun _ => h.seedRange (.inl hp), ?_⟩ <;>
      simp [State.afterLength, State.polling]
  | length hp hn => exact h.afterLength_keeps hp rx
  | payloadWord hp hn => exact h.afterWord_keeps hp
  | finFold hp hn => exact h
  | pollCrc hp hn =>
    simp only [afterExchange]
    split
    · exact h.setIdx_keeps hb (by simp [hp]) (by simp [hp, opAt]) (.inl (by decide))
    · exact h.pollMissed_keeps (by simp [State.polling, hp, hn])
  | crcAck hp hn => exact h.setIdx_keeps hb (by simp [hp]) (by simp [hp, opAt]) (.inl (by decide))
  | crcSend hp hn =>
    exact sessionInv_of_resting (s := s.discardSession.goto .done 0) rfl rfl h.image h.limit (by simp [hregs.err])
      (by simp) (by simp)

/-- `FIN_FOLD` keeps it: the fold fits 16 bits, and the count starts afresh (R208). -/
theorem SessionInv.finFold_keeps {s t : State} (h : SessionInv s) (ho : opAt s.phase s.idx = some .finFold)
    (he : exec .finFold s = .next t) : SessionInv t := by
  obtain ⟨hp, hn⟩ : s.phase = .finalize ∧ s.idx = 0 := by
    cases opAt_iff_performs.mp ho with | finFold hp hn => exact ⟨hp, hn⟩
  have hregs := h.regs (opAt_busy ho)
  rw [exec_finFold_next he]
  refine (hregs.foldFinal _).clearPollCount.inv ?_
  exact {
    busy := by simp [State.busy, hp, Phase.resting]
    control := by simp [hp, controlLegal, Phase.resting, opAt]
    keys := fun _ => by simpa using h.keys (by simp [State.afterKey, hp])
    finalizer := fun _ => by simpa using h.finalizer (by simp [State.afterLength, hp])
    offset := offsetOk_of_same (by simp) (by simp [hp]) (by simp) (by simp) h.offset
    seedRange := fun h => by simp [hp] at h
    pollCount := fun _ => clearPollCount_below (by exact hregs.limit) }

/-- START keeps it: a legal length begins a session, an oversize one fails it (R125). -/
theorem SessionInv.start_keeps {s : State} (h : SessionInv s) (len : Word) {t : State} (he : exec (.start len) s = .next t) :
    SessionInv t := by
  simp only [exec, execStart] at he
  split at he
  · cases he; exact h
  · split at he
    · cases he; exact sessionInv_enterFailed h.image h.limit (by decide) _ _
    · rename_i hlen
      cases he; exact sessionInv_beginSession h.image h.limit (BitVec.not_lt.mp hlen)

/-- An operation in its control state keeps the invariant. -/
theorem SessionInv.operation_keeps {s t : State} {i : Instr} (h : SessionInv s) (ho : opAt s.phase s.idx = some i)
    (he : exec i s = .next t) : SessionInv t := by
  by_cases hi : i = .finFold
  · subst hi; exact h.finFold_keeps ho he
  · obtain ⟨tx, -, rfl⟩ := exec_op_next ho hi he
    have hu := h.beforeExchange_keeps ho
    exact hu.exchange_keeps tx fun rx => (hu.exchanged_keeps tx rx).afterExchange_keeps (by simpa using ho) rx

/-- A step keeps the invariant: what a boundary selects is a command, the operation of the control state, or nothing. -/
theorem SessionInv.step_keeps {s t : State} (h : SessionInv s) (he : step s = .next t) : SessionInv t := by
  have hpass := h.passBoundary_keeps
  rcases step_next he with ⟨i, hsel, he⟩ | ⟨-, rfl⟩
  · rcases s.select_cases with ⟨-, e⟩ | ⟨-, -, e⟩ | ⟨-, -, -, e⟩ | ⟨j, -, -, -, ho, e⟩ |
      ⟨len, -, -, -, e⟩ | ⟨-, -, -, e⟩ <;> rw [e] at hsel <;> cases hsel
    · cases he; exact sessionInv_resetBlock h.image h.limit
    · simp only [exec, execAbort] at he
      split at he <;> cases he
      · exact sessionInv_raise hpass.image hpass.limit nofun
      · exact hpass
    · exact hpass.operation_keeps ho he
    · exact hpass.start_keeps len he
  · exact hpass

/-- Settles O35: the invariant is kept by the commands, by what precedes an exchange, and by what follows it. -/
theorem stepKeepsInvariant : Obligations.StepKeepsInvariant := fun _ _ h he => h.step_keeps he

/-- A poll of the invariant can count its miss: the count holds a value wherever there is a limit (R42, R43). -/
theorem SessionInv.withPollCount_eq {s : State} (h : SessionInv s) (hpoll : s.polling = true) (e : Word) (body : Result) :
    withPollCount s e body = body := by
  refine Machine.withPollCount_eq ?_ body
  cases hl : s.pollLimit with
  | none => exact .inl rfl
  | some k => exact .inr (.inl (h.pollCount hpoll k hl).1)

/-- In the invariant an operation reads no unwritten register (R43). -/
theorem SessionInv.operation_answers {s : State} {i : Instr} (h : SessionInv s) (ho : opAt s.phase s.idx = some i) :
    ∃ t, exec i s = .next t := by
  obtain ⟨hlen, hsum, hoff, -⟩ := h.session (by rw [inSession_eq_busy, opAt_busy ho])
  cases opAt_iff_performs.mp ho with
  | pollDiscover hp hn =>
    exact ⟨_, (performedAt_eq ho _).trans (h.withPollCount_eq (by simp [State.polling, hp]) _ _)⟩
  | pollCrc hp hn =>
    exact ⟨_, (performedAt_eq ho _).trans (h.withPollCount_eq (by simp [State.polling, hp, hn]) _ _)⟩
  | recogA | recogB | hdrEnd | infoAgain | keyA | keyB | crcAck => exact ⟨_, performedAt_eq ho _⟩
  | hdrUnit =>
    exact ⟨_, (performedAt_eq ho _).trans (by rw [Reg.get_written hlen, Reg.get_written hoff])⟩
  | handshake hp hn =>
    have hhh := (h.keys (by simp [State.afterKey, hp])).2
    exact ⟨_, (performedAt_eq ho _).trans (by rw [Reg.get_written hhh])⟩
  | length hp hn =>
    have hhh := (h.keys (by simp [State.afterKey, hp])).2
    exact ⟨_, (performedAt_eq ho _).trans
      (by rw [Reg.get_written hlen, State.getAfter_eq (.inl hhh), State.getAfter_eq (.inl hoff)])⟩
  | payloadWord hp hn =>
    have hkey := (h.keys (by simp [State.afterKey, hp])).1
    exact ⟨_, (performedAt_eq ho _).trans
      (by rw [Reg.get_written hlen, Reg.get_written hoff, Reg.get_written hsum, Reg.get_written hkey])⟩
  | finFold hp hn =>
    have hfin := h.finalizer (by simp [State.afterLength, hp])
    exact ⟨_, (performedAt_eq ho _).trans (by rw [Reg.get_written hsum, Reg.get_written hfin])⟩
  | crcSend => exact ⟨_, (performedAt_eq ho _).trans (by rw [Reg.get_written hsum])⟩

/-- START is never refused (R125). -/
theorem start_answers (len : Word) (s : State) : ∃ t, exec (.start len) s = .next t := by
  simp only [exec, execStart]
  split
  · exact ⟨_, rfl⟩
  · split <;> exact ⟨_, rfl⟩

/-- Nor is ABORT (R228). -/
theorem abort_answers (s : State) : ∃ t, exec .abort s = .next t := by
  simp only [exec, execAbort]
  split <;> exact ⟨_, rfl⟩

/-- From a state of the invariant a step answers next: its control state is legal, and what the boundary selects answers. -/
theorem SessionInv.step_answers {s : State} (h : SessionInv s) : ∃ t, step s = .next t := by
  unfold step
  rcases s.select_cases with ⟨-, e⟩ | ⟨-, hl, -⟩ | ⟨-, -, -, e⟩ | ⟨i, -, -, -, ho, e⟩ |
    ⟨len, -, -, -, e⟩ | ⟨-, -, -, e⟩
  · rw [e]; exact ⟨_, rfl⟩
  · exact absurd h.control (by simp [hl])
  · rw [e]; exact abort_answers _
  · rw [e]; exact h.passBoundary_keeps.operation_answers ho
  · rw [e]; exact start_answers len _
  · rw [e]; exact ⟨_, rfl⟩

/-- Settles O36: progress, with the invariant kept by O35. -/
theorem invariantStatesNeverStop : Obligations.InvariantStatesNeverStop := fun _ h =>
  let ⟨t, he⟩ := h.step_answers
  ⟨t, he, h.step_keeps he⟩

end Sys2Proof.Machine

/-! ### Answered steps -/

namespace Sys2Proof.Machine

/-- The state after operation `i` has sent `tx` and got the answer `rx`. -/
def afterAnswer (i : Instr) (s : State) (tx rx : Word) : State :=
  afterExchange i (((beforeExchange i s).handOver tx).traceExchange tx rx) rx

/-- Everything a miss can do (R113). -/
theorem State.pollMissed_cases (s : State) :
    s.pollMissed = s ∨ s.pollMissed = { s with pollCount := .held (s.pollCount.bits + 1) } ∨
      s.pollMissed = ({ s with pollCount := .held (s.pollCount.bits + 1) } : State).raise .peerUnresponsive := by
  by_cases hl : s.pollLimit = none
  · exact .inl (State.pollMissed_noLimit hl)
  · obtain ⟨k, hk⟩ := Option.ne_none_iff_exists'.mp hl
    rw [State.pollMissed_limit hk]
    split
    · exact .inr (.inr rfl)
    · exact .inr (.inl rfl)

/-- A miss leaves the link, the schedule and `img_len`. -/
theorem State.pollMissed_frame (s : State) : s.pollMissed.sent = s.sent ∧ s.pollMissed.peer = s.peer ∧
    s.pollMissed.host = s.host ∧ s.pollMissed.imgLen = s.imgLen := by
  rcases s.pollMissed_cases with e | e | e <;> simp [e]

/-- The 95th unit ends the phase (R133). -/
theorem State.afterUnit_last {s : State} (h : s.idx.toNat = 94) (off : Word) :
    s.afterUnit off = (s.setOffset (off + 2)).goto .headerDone 0 := by simp [State.afterUnit, params, h]

/-- Every other goes on to the next (R200). -/
theorem State.afterUnit_more {s : State} (h : s.idx.toNat ≠ 94) (off : Word) :
    s.afterUnit off = { s.setOffset (off + 2) with idx := s.idx + 1 } := by simp [State.afterUnit, params, h]

/-- What follows the exchange leaves them. -/
theorem afterExchange_frame (i : Instr) (s : State) (rx : Word) : (afterExchange i s rx).sent = s.sent ∧
    (afterExchange i s rx).peer = s.peer ∧ (afterExchange i s rx).host = s.host ∧
    (afterExchange i s rx).imgLen = s.imgLen := by
  cases i with
  | pollDiscover => simp only [afterExchange]; split <;> simp [State.pollMissed_frame]
  | pollCrc => simp only [afterExchange]; split <;> simp [State.pollMissed_frame]
  | hdrUnit => by_cases h : s.idx.toNat = 94 <;> simp [afterExchange, State.afterUnit_last, State.afterUnit_more, h]
  | payloadWord => simp [afterExchange, State.afterWord]
  | _ => simp [afterExchange]

@[simp] theorem sent_afterAnswer (i : Instr) (s : State) (tx rx : Word) : (afterAnswer i s tx rx).sent = s.sent ++ [tx] := by
  simp [afterAnswer, afterExchange_frame]
@[simp] theorem peer_afterAnswer (i : Instr) (s : State) (tx rx : Word) : (afterAnswer i s tx rx).peer = s.peer.tail := by
  simp [afterAnswer, afterExchange_frame]
@[simp] theorem host_afterAnswer (i : Instr) (s : State) (tx rx : Word) : (afterAnswer i s tx rx).host = s.host := by
  simp [afterAnswer, afterExchange_frame]
@[simp] theorem imgLen_afterAnswer (i : Instr) (s : State) (tx rx : Word) : (afterAnswer i s tx rx).imgLen = s.imgLen := by
  simp [afterAnswer, afterExchange_frame]

/-- Everything an exchanging operation can do in its control state: it sends its word and is answered, or enters FAILED with
`TransportFailure` (R110, R224). -/
theorem exec_op_cases {i : Instr} {s t : State} (ho : opAt s.phase s.idx = some i) (hi : i ≠ .finFold)
    (h : exec i s = .next t) : ∃ tx, sentWord s i = some tx ∧
      ((∃ rx, s.answer = .ok rx ∧ t = afterAnswer i s tx rx) ∨
        (s.answer = .fail ∧ t = ((beforeExchange i s).handOver tx).raise .transportFailure)) := by
  obtain ⟨tx, htx, rfl⟩ := exec_op_next ho hi h
  refine ⟨tx, htx, ?_⟩
  rw [← answer_beforeExchange i s]
  rcases (beforeExchange i s).exchange_cases tx (afterExchange i) with ⟨rx, ha, e⟩ | ⟨ha, e⟩
  · exact .inl ⟨rx, ha, e⟩
  · exact .inr ⟨ha, e⟩

/-- Where the host asserts neither RESET nor ABORT, a step runs the operation of the control state (R232). -/
theorem step_of_opAt {s : State} {i : Instr} (hr : s.slot.reset = false) (ha : s.slot.abort = false)
    (ho : opAt s.phase s.idx = some i) : step s = exec i s.passBoundary := by
  have hsel : s.select = .run i := by simp [State.select, State.currentOp, hr, ha, opAt_legal ho, opAt_busy ho, ho]
  simp [step, hsel]

/-- With the schedule used up a boundary changes nothing. -/
theorem State.passBoundary_of_nil {s : State} (h : s.host = []) : s.passBoundary = s := by
  cases s; simp_all [State.passBoundary]

theorem step_of_host_nil {s : State} {i : Instr} (h : s.host = []) (ho : opAt s.phase s.idx = some i) :
    step s = exec i s := by
  rw [step_of_opAt (by simp [State.slot, h, HostSlot.quiet]) (by simp [State.slot, h, HostSlot.quiet]) ho,
    State.passBoundary_of_nil h]

/-- With no host command an invariant state's operation sends its word, uses up the answer, and leads to the invariant. -/
theorem SessionInv.step_answered {s : State} {i : Instr} {rx : Word} (h : SessionInv s) (hhost : s.host = [])
    (ho : opAt s.phase s.idx = some i) (hi : i ≠ .finFold) (ha : s.answer = .ok rx) :
    ∃ tx, sentWord s i = some tx ∧ step s = .next (afterAnswer i s tx rx) ∧ SessionInv (afterAnswer i s tx rx) := by
  obtain ⟨t, he⟩ := h.operation_answers ho
  have hstep := (step_of_host_nil hhost ho).trans he
  obtain ⟨tx, htx, ⟨rx', ha', rfl⟩ | ⟨hf, -⟩⟩ := exec_op_cases ho hi he
  · obtain rfl : rx' = rx := by simpa [ha] using ha'.symm
    exact ⟨tx, htx, hstep, h.step_keeps hstep⟩
  · simp [ha] at hf

theorem stepsTo_succ {n : Nat} {s t : State} (h : step s = .next t) : stepsTo (n + 1) s = stepsTo n t := by
  simp [stepsTo, h]

/-- A run goes on from where its first part ends. -/
theorem stepsTo_add {m : Nat} {s t : State} (h : stepsTo m s = some t) (n : Nat) : stepsTo (m + n) s = stepsTo n t := by
  induction m generalizing s with
  | zero => cases h; rw [Nat.zero_add]
  | succ m ih =>
    rw [Nat.succ_add]
    unfold stepsTo at h
    split at h
    · rename_i hs; rw [stepsTo_succ hs]; exact ih h
    · cases h
    · cases h

/-! ### The session counted down (R31, R203) -/

/-- How many exchanges a session is away from FINALIZE, from RECOGNIZE on: two in RECOGNIZE, 95 header units, two in each of
HEADER_DONE and KEY_EXCHANGE, one each in HANDSHAKE and LENGTH, and the payload words left. -/
def exchangesToFinalize (s : State) : Nat :=
  match s.phase with
  | .recognize => 103 - s.idx.toNat + payloadWords s.rounded
  | .header => 101 - s.idx.toNat + payloadWords s.rounded
  | .headerDone => 6 - s.idx.toNat + payloadWords s.rounded
  | .keyExchange => 4 - s.idx.toNat + payloadWords s.rounded
  | .handshake => 2 + payloadWords s.rounded
  | .length => 1 + payloadWords s.rounded
  | .payload => (s.rounded.toNat + 2 - s.payloadOffset.bits.toNat) / 4
  | .idle | .discovery | .finalize | .done | .failed => 0

/-- The count hangs on the control state, the length and the offset, which an exchange leaves. -/
theorem exchangesToFinalize_exchanged (i : Instr) (s : State) (tx rx : Word) :
    exchangesToFinalize (((beforeExchange i s).handOver tx).traceExchange tx rx) = exchangesToFinalize s := by
  unfold beforeExchange
  split <;> rfl

/-- At the loop test the payload words left are those from the offset on; none are left exactly where FINALIZE is next (R148). -/
theorem exchangesToFinalize_loopTest {s : State} {off len : Word} (hoff : s.payloadOffset.bits = off)
    (hlen : s.imgLen.bits = len) (hmod : off.toNat % 4 = 2) (hL16 : (roundedLength len).toNat % 16 = 0) :
    exchangesToFinalize (s.gotoPayloadOrFinalize off len) = ((roundedLength len).toNat + 2 - off.toNat) / 4 ∧
      (((roundedLength len).toNat + 2 - off.toNat) / 4 = 0 →
        (s.gotoPayloadOrFinalize off len).phase = .finalize ∧ (s.gotoPayloadOrFinalize off len).idx = 0) := by
  unfold State.gotoPayloadOrFinalize
  split
  next hlt =>
    rw [BitVec.lt_def] at hlt
    refine ⟨?_, fun _ => by omega⟩
    subst hoff hlen
    rfl
  next hge =>
    rw [BitVec.lt_def] at hge
    refine ⟨?_, fun _ => ⟨rfl, rfl⟩⟩
    simp only [exchangesToFinalize, State.phase_goto]
    omega

/-- In every phase from RECOGNIZE to PAYLOAD an answered operation comes one nearer to FINALIZE, and the last one is there. -/
theorem SessionInv.afterExchange_countsDown {s : State} {i : Instr} {n : Nat} (h : SessionInv s)
    (ho : opAt s.phase s.idx = some i) (hn : exchangesToFinalize s = n + 1) (rx : Word) :
    exchangesToFinalize (afterExchange i s rx) = n ∧
      (n = 0 → (afterExchange i s rx).phase = .finalize ∧ (afterExchange i s rx).idx = 0) := by
  cases opAt_iff_performs.mp ho with
  | pollDiscover hp => simp [exchangesToFinalize, hp] at hn
  | finFold hp => simp [exchangesToFinalize, hp] at hn
  | pollCrc hp => simp [exchangesToFinalize, hp] at hn
  | crcAck hp => simp [exchangesToFinalize, hp] at hn
  | crcSend hp => simp [exchangesToFinalize, hp] at hn
  | recogA hp hi | recogB hp hi | hdrEnd hp hi | infoAgain hp hi | keyA hp hi | keyB hp hi | handshake hp hi =>
    simp [exchangesToFinalize, hp, hi, afterExchange, State.rounded] at hn ⊢
    omega
  | hdrUnit hp hi =>
    have hn' : 101 - s.idx.toNat + payloadWords s.rounded = n + 1 := by simpa [exchangesToFinalize, hp] using hn
    by_cases hlast : s.idx.toNat = 94
    · simp [afterExchange, State.afterUnit_last hlast, exchangesToFinalize, State.rounded] at hn' ⊢
      omega
    · simp [afterExchange, State.afterUnit_more hlast, exchangesToFinalize, State.rounded, hp] at hn' ⊢
      omega
  | length hp hi =>
    have hn' : payloadWords s.rounded = n := by simp [exchangesToFinalize, hp] at hn; omega
    have hoff : s.payloadOffset.bits = 0xBE := by simpa [State.offsetOk, hp] using h.offset
    obtain ⟨hL16, -⟩ := roundedLength_bounds (h.regs (opAt_busy ho)).lengthRange
    obtain ⟨hcount, hend⟩ := exchangesToFinalize_loopTest
      (s := s.latchFinalizer (finalizerSeed (carriedByte rx) s.hh.bits)) hoff rfl (by decide) hL16
    simp only [payloadWords, State.rounded] at hn'
    have hn0 : ((roundedLength s.imgLen.bits).toNat + 2 - (0xBE : Word).toNat) / 4 = n := by simp; omega
    simp only [afterExchange, hoff]
    exact ⟨hcount.trans hn0, fun h0 => hend (hn0.trans h0)⟩
  | payloadWord hp hi =>
    obtain ⟨hlow, hmod, hbelow⟩ := h.payload_offset hp
    obtain ⟨hL16, hLmax⟩ := roundedLength_bounds (h.regs (opAt_busy ho)).lengthRange
    have hn' : (s.rounded.toNat + 2 - s.payloadOffset.bits.toNat) / 4 = n + 1 := by simpa [exchangesToFinalize, hp] using hn
    simp only [State.rounded] at hn' hbelow
    obtain ⟨hcount, hend⟩ := exchangesToFinalize_loopTest (s := s.setOffset (s.payloadOffset.bits + 4))
      (off := s.payloadOffset.bits + 4) rfl rfl
      (by bv_omega) hL16
    have hn0 : ((roundedLength s.imgLen.bits).toNat + 2 - (s.payloadOffset.bits + 4).toNat) / 4 = n := by bv_omega
    exact ⟨hcount.trans hn0, fun h0 => hend (hn0.trans h0)⟩

end Sys2Proof.Machine

/-! ### The successor table (R31) -/

namespace Sys2Proof.Machine

/-- The loop test is the table's `more`, read off the state it leads to (R148). -/
theorem gotoPayloadOrFinalize_place {s t : State} {off len : Word} (ht : t = s.gotoPayloadOrFinalize off len)
    (hoff : s.payloadOffset.bits = off) (hlen : s.imgLen.bits = len) :
    (t.phase, t.idx) = if t.payloadOffset.bits < t.rounded then (.payload, 0) else (.finalize, 0) := by
  subst ht hoff hlen
  simp only [State.rounded, State.phase_gotoPayloadOrFinalize, State.idx_gotoPayloadOrFinalize,
    State.payloadOffset_gotoPayloadOrFinalize, State.imgLen_gotoPayloadOrFinalize]
  split <;> rfl

/-- Where an answered operation leaves the control state, but for a poll that misses under a limit. -/
theorem afterExchange_place {s : State} {i : Instr} {rx : Word} (ho : opAt s.phase s.idx = some i) (hi : i ≠ .finFold)
    (hpoll : s.pollLimit = none ∨ ∀ e, responseFormat i = some (.compared e) → rx = e) :
    ((afterExchange i s rx).phase, (afterExchange i s rx).idx) =
      successor (decide ((afterExchange i s rx).payloadOffset.bits < (afterExchange i s rx).rounded)) s.phase s.idx rx := by
  cases opAt_iff_performs.mp ho with
  | finFold => exact absurd rfl hi
  | pollDiscover hp hn =>
    by_cases hr : rx = params.rspDiscover
    · simp [afterExchange, successor, hp, hr]
    · have hl : s.pollLimit = none := hpoll.resolve_right fun h => hr (h _ rfl)
      simp [afterExchange, successor, hp, hn, hr, State.pollMissed_noLimit hl]
  | pollCrc hp hn =>
    by_cases hr : rx = params.rspCrcReady
    · simp [afterExchange, successor, hp, hn, hr]
    · have hl : s.pollLimit = none := hpoll.resolve_right fun h => hr (h _ rfl)
      simp [afterExchange, successor, hp, hn, hr, State.pollMissed_noLimit hl]
  | hdrUnit hp hn =>
    by_cases hlast : s.idx.toNat = 94
    · simp [afterExchange, State.afterUnit_last hlast, successor, hp, hlast, params]
    · have hlt : s.idx.toNat + 1 < 95 := by omega
      simp [afterExchange, State.afterUnit_more hlast, successor, hp, hlt, params]
  | length hp hn =>
    simp only [successor, hp, decide_eq_true_eq]
    exact gotoPayloadOrFinalize_place rfl rfl rfl
  | payloadWord hp hn =>
    simp only [successor, hp, decide_eq_true_eq]
    exact gotoPayloadOrFinalize_place rfl rfl rfl
  | recogA hp hn | recogB hp hn | hdrEnd hp hn | infoAgain hp hn | keyA hp hn | keyB hp hn | handshake hp hn | crcAck hp hn
  | crcSend hp hn => simp [afterExchange, successor, hp, hn]

/-- The same of the state after the answer to an operation's own word, which leaves the control state it was sent in. -/
theorem afterAnswer_place {s : State} {i : Instr} {tx rx : Word} (ho : opAt s.phase s.idx = some i) (hi : i ≠ .finFold)
    (hpoll : s.pollLimit = none ∨ ∀ e, responseFormat i = some (.compared e) → rx = e) :
    ((afterAnswer i s tx rx).phase, (afterAnswer i s tx rx).idx) =
      successor (decide ((afterAnswer i s tx rx).payloadOffset.bits < (afterAnswer i s tx rx).rounded)) s.phase s.idx rx := by
  unfold afterAnswer
  simpa using afterExchange_place (s := ((beforeExchange i s).handOver tx).traceExchange tx rx) (by simpa using ho) hi
    (by simpa using hpoll)

/-- Settles O33: an answered operation leads to `afterAnswer`, whose control state is the table's. -/
theorem answeredExchangeFollowsSuccessorTable : Obligations.AnsweredExchangeFollowsSuccessorTable := by
  unfold Obligations.AnsweredExchangeFollowsSuccessorTable
  intro s t i rx hl ho hi ha he
  obtain ⟨tx, -, ⟨rx', ha', rfl⟩ | ⟨hf, -⟩⟩ := exec_op_cases ho hi he
  · obtain rfl : rx' = rx := by simpa [ha] using ha'.symm
    exact afterAnswer_place ho hi (.inl hl)
  · simp [ha] at hf

/-- From RECOGNIZE on, as many answers as exchanges are left lead to FINALIZE, one word sent for each. -/
theorem SessionInv.run_to_finalize (rxs : List Word) {s : State} {rest : List LinkResult} (h : SessionInv s)
    (hhost : s.host = []) (hcount : exchangesToFinalize s = rxs.length)
    (hend : rxs.length = 0 → s.phase = .finalize ∧ s.idx = 0) (hpeer : s.peer = rxs.map .ok ++ rest) :
    ∃ t, stepsTo rxs.length s = some t ∧ SessionInv t ∧ t.host = [] ∧ t.phase = .finalize ∧ t.idx = 0 ∧
      t.peer = rest ∧ t.sent.length = s.sent.length + rxs.length := by
  induction rxs generalizing s with
  | nil => exact ⟨s, rfl, h, hhost, (hend rfl).1, (hend rfl).2, hpeer, rfl⟩
  | cons rx rxs ih =>
    have hb : s.busy = true := by
      revert hcount
      unfold exchangesToFinalize State.busy
      cases s.phase <;> simp [Phase.resting]
    obtain ⟨i, ho⟩ := legal_busy_op h.control hb
    have hi : i ≠ .finFold := by
      rintro rfl
      cases opAt_iff_performs.mp ho with | finFold hp => simp [exchangesToFinalize, hp] at hcount
    have ha : s.answer = .ok rx := by simp [State.answer, hpeer]
    obtain ⟨tx, -, hstep, ht⟩ := h.step_answered hhost ho hi ha
    have hu := (h.beforeExchange_keeps ho).exchanged_keeps tx rx
    obtain ⟨hc, he⟩ := hu.afterExchange_countsDown (by simpa using ho)
      ((exchangesToFinalize_exchanged i s tx rx).trans hcount) rx
    obtain ⟨t, hrun, hinv, hh, hp, hx, hr, hsent⟩ := ih ht (by simp [hhost]) hc he (by simp [hpeer])
    refine ⟨t, (stepsTo_succ hstep).trans hrun, hinv, hh, hp, hx, hr, ?_⟩
    simp only [hsent, sent_afterAnswer, List.length_append, List.length_cons, List.length_nil]
    omega

/-- One answered step between two control states of the table, for an operation whose successor the loop test does not
decide. -/
theorem SessionInv.step_between {s : State} {i : Instr} {p q : Phase} {n m : BitVec 7} {rx : Word} {rest : List LinkResult}
    (h : SessionInv s) (hhost : s.host = []) (hp : s.phase = p) (hn : s.idx = n) (ho : opAt p n = some i) (hi : i ≠ .finFold)
    (hpeer : s.peer = .ok rx :: rest) (hpoll : ∀ e, responseFormat i = some (.compared e) → rx = e)
    (hsucc : ∀ more, successor more p n rx = (q, m)) :
    ∃ t tx, step s = .next t ∧ SessionInv t ∧ t.host = [] ∧ t.phase = q ∧ t.idx = m ∧ t.peer = rest ∧
      t.imgLen = s.imgLen ∧ sentWord s i = some tx ∧ t.sent = s.sent ++ [tx] := by
  subst hp hn
  obtain ⟨tx, htx, hstep, ht⟩ := h.step_answered (rx := rx) hhost ho hi (by simp [State.answer, hpeer])
  have hplace := (afterAnswer_place (tx := tx) ho hi (.inr hpoll)).trans (hsucc _)
  obtain ⟨hq, hm⟩ := Prod.mk.inj hplace
  exact ⟨_, tx, hstep, ht, by simp [hhost], hq, hm, by simp [hpeer], by simp, htx, by simp⟩

/-- From FINALIZE on, `FIN_FOLD` and three answered exchanges, the first with `0x00750065`, lead to DONE; the last word sent is
the checksum (R208 to R212, R269). -/
theorem SessionInv.run_finalize {s : State} {ack last : Word} {rest : List LinkResult} (h : SessionInv s) (hhost : s.host = [])
    (hp : s.phase = .finalize) (hn : s.idx = 0)
    (hpeer : s.peer = .ok 0x00750065 :: .ok ack :: .ok last :: rest) :
    ∃ t, stepsTo 4 s = some t ∧ SessionInv t ∧ t.phase = .done ∧ t.idx = 0 ∧ t.peer = rest ∧
      ∃ w, w ≤ 0xFFFF ∧ t.sent = s.sent ++ [params.cmdCrcPoll, params.cmdCrcAck, w] := by
  have ho : opAt s.phase s.idx = some .finFold := by simp [hp, hn, opAt]
  obtain ⟨t₁, hfold⟩ := h.operation_answers ho
  have step₁ := (step_of_host_nil hhost ho).trans hfold
  have inv₁ := h.step_keeps step₁
  have eq₁ := exec_finFold_next hfold
  obtain ⟨t₂, tx₂, step₂, inv₂, host₂, p₂, n₂, peer₂, -, htx₂, sent₂⟩ :=
    inv₁.step_between (i := .pollCrc) (n := 1) (q := .finalize) (m := 2)
    (by simp [eq₁, hhost]) (by simpa [eq₁] using hp) (by simp [eq₁]) rfl nofun (by simpa [eq₁] using hpeer)
    (fun e he => by cases he; rfl) (fun _ => by simp [successor, params])
  obtain ⟨t₃, tx₃, step₃, inv₃, host₃, p₃, n₃, peer₃, -, htx₃, sent₃⟩ :=
    inv₂.step_between (i := .crcAck) (q := .finalize) (m := 3)
    host₂ p₂ n₂ rfl nofun peer₂ nofun (fun _ => rfl)
  obtain ⟨t₄, tx₄, step₄, inv₄, -, p₄, n₄, peer₄, -, htx₄, sent₄⟩ :=
    inv₃.step_between (i := .crcSend) (q := .done) (m := 0)
    host₃ p₃ n₃ rfl nofun peer₃ nofun (fun _ => rfl)
  cases htx₂; cases htx₃; cases htx₄
  have hsum := ((inv₃.regs (by simp [State.busy, p₃, Phase.resting])).checksumRange)
  refine ⟨t₄, ?_, inv₄, p₄, n₄, peer₄, t₃.checksum.bits, hsum, ?_⟩
  · rw [stepsTo_succ step₁, stepsTo_succ step₂, stepsTo_succ step₃, stepsTo_succ step₄]
    rfl
  · simp [sent₄, sent₃, sent₂, eq₁]

/-- Settles O43: one poll, the exchanges counted down to FINALIZE, and the four steps of FINALIZE. -/
theorem cooperativeSessionReachesDone : Obligations.CooperativeSessionReachesDone := by
  unfold Obligations.CooperativeSessionReachesDone
  intro s rxs ack last rest h hp hhost hlen hpeer
  have hn : s.idx = 0 := by
    have := h.control
    simpa [controlLegal, hp, Phase.resting, opAt] using this
  obtain ⟨a, tx, hstep, ha, ahost, ap, an, apeer, aimg, -, asent⟩ :=
    h.step_between (i := .pollDiscover) (q := .recognize) (m := 0)
    hhost hp hn rfl nofun hpeer (fun e he => by cases he; rfl) (fun _ => by simp [successor, params])
  have hrounded : a.rounded = s.rounded := by simp [State.rounded, aimg]
  have hcount : exchangesToFinalize a = rxs.length := by simp [exchangesToFinalize, ap, an, hrounded, hlen]
  obtain ⟨b, hrun, hb, bhost, bp, bn, bpeer, bsent⟩ := ha.run_to_finalize rxs ahost hcount (by omega) apeer
  obtain ⟨t, hfin, ht, tp, tn, tpeer, w, hw, tsent⟩ := hb.run_finalize bhost bp bn bpeer
  refine ⟨t, ?_, tp, tn, ?_, ?_, ⟨w, by simp [tsent], hw⟩, tpeer⟩
  · have hsteps : 108 + payloadWords s.rounded = rxs.length + 4 + 1 := by omega
    rw [hsteps, stepsTo_succ hstep, stepsTo_add hrun]
    exact hfin
  · exact not_not.mp (mt ht.err.mp (by simp [tp]))
  · simp only [tsent, List.length_append, bsent, asent, List.length_cons, List.length_nil]
    omega

end Sys2Proof.Machine

/-! ### Reads of unwritten registers (R43) -/

namespace Sys2Proof.Machine

/-- A chain of reads faults where one of its registers holds no value. -/
theorem Reg.get_faults {α : Type} {r : Reg α} {n : RegName} {k : α → Result}
    (h : r.written = true → ∃ m, k r.bits = .fault (.unwrittenRead m)) : ∃ m, r.get n k = .fault (.unwrittenRead m) := by
  cases hw : r.written with
  | false => exact ⟨n, Reg.get_unwritten hw n k⟩
  | true => rw [Reg.get_written hw]; exact h hw

/-- So does a chain of reads after the exchange, on an answer that calls for them. -/
theorem State.getAfter_faults {α : Type} {s : State} {needed : LinkResult → Bool} {r : Reg α} {n : RegName}
    {k : α → Result} (hn : needed s.answer = true) (h : r.written = true → ∃ m, k r.bits = .fault (.unwrittenRead m)) :
    ∃ m, s.getAfter needed r n k = .fault (.unwrittenRead m) := by
  cases hw : r.written with
  | false => exact ⟨n, State.getAfter_unwritten hw hn n k⟩
  | true => rw [State.getAfter_eq (.inl hw)]; exact h hw

/-- A miss under a limit cannot be counted in a count that holds no value (R113). -/
theorem withPollCount_unwritten {s : State} {k : Nat} {e rx : Word} (hl : s.pollLimit = some k)
    (hw : s.pollCount.written = false) (ha : s.answer = .ok rx) (hr : rx ≠ e) (body : Result) :
    withPollCount s e body = .fault (.unwrittenRead .pollCount) := by
  unfold withPollCount
  rw [hl]
  exact State.getAfter_unwritten hw (by simp [ha, missesOn, hr]) _ _

/-- A change of phase is the state the statements write out, with its trace record (R39). -/
theorem goto_eq_entered {s : State} {p : Phase} (h : s.phase ≠ p) : s.goto p 0 = entered s p := by
  simp [State.goto, entered, h.symm]

/-- So is a failure outside FAILED (R230). -/
theorem raise_eq_failedWith {s : State} (h : s.phase ≠ .failed) (k : ErrKind) : s.raise k = failedWith s k :=
  goto_eq_entered (s := { s.discardSession with err := k, failPhase := .held s.phase, failIdx := .held s.idx }) h

/-- `LENGTH` whose exchange fails reads `img_len` only (R143, R224). -/
theorem exec_length_of_fail {s : State} (ho : opAt s.phase s.idx = some .length) (ha : s.answer = .fail)
    (hw : s.imgLen.written = true) :
    exec .length s = .next ((s.handOver (lengthWord (roundedLength s.imgLen.bits))).raise .transportFailure) := by
  have hans : answered s.answer = false := by rw [ha]; rfl
  simp only [exec, execLength]
  rw [performedAt_eq ho, Reg.get_written hw, State.getAfter_eq (.inr hans), State.getAfter_eq (.inr hans),
    State.exchange_fail ha]

/-- Settles O10: each operation's reads in their order, each at the answer that calls for it. -/
theorem unwrittenReadIsAModelFault : Obligations.UnwrittenReadIsAModelFault := by
  unfold Obligations.UnwrittenReadIsAModelFault
  intro s
  refine ⟨?header, ?handshake, ?length, ?lengthAnswered, ?lengthFailed, ?payload, ?fold, ?send, ?polls⟩
  case header =>
    intro hp hn hw
    have ho : opAt s.phase s.idx = some .hdrUnit := by rw [hp]; exact opAt_header hn
    rw [exec, execHdrUnit, performedAt_eq ho]
    exact Reg.get_faults fun h1 => Reg.get_faults fun h2 => by simp [h1, h2] at hw
  case handshake =>
    intro hp hn hw
    rw [exec, execHandshake, performedAt_eq (by simp [hp, hn, opAt]), Reg.get_unwritten hw]
  case length =>
    intro hp hn hw
    rw [exec, execLength, performedAt_eq (by simp [hp, hn, opAt]), Reg.get_unwritten hw]
  case lengthAnswered =>
    intro rx hp hn ha hw
    have hans : answered s.answer = true := by rw [ha]; rfl
    rw [exec, execLength, performedAt_eq (by simp [hp, hn, opAt])]
    exact Reg.get_faults fun h1 => State.getAfter_faults hans fun h2 => State.getAfter_faults hans fun h3 => by
      simp [h1, h2, h3] at hw
  case lengthFailed =>
    intro hp hn ha hw
    rw [exec_length_of_fail (by simp [hp, hn, opAt]) ha hw, raise_eq_failedWith (by simp [hp])]
    rfl
  case payload =>
    intro hp hn hw
    rw [exec, execPayloadWord, performedAt_eq (by simp [hp, hn, opAt])]
    exact Reg.get_faults fun h1 => Reg.get_faults fun h2 => Reg.get_faults fun h3 => Reg.get_faults fun h4 => by
      simp [h1, h2, h3, h4] at hw
  case fold =>
    intro hp hn hw
    rw [exec, execFinFold, performedAt_eq (by simp [hp, hn, opAt])]
    exact Reg.get_faults fun h1 => Reg.get_faults fun h2 => by simp [h1, h2] at hw
  case send =>
    intro hp hn hw
    rw [exec, execCrcSend, performedAt_eq (by simp [hp, hn, opAt]), Reg.get_unwritten hw]
  case polls =>
    intro k rx hl hw ha
    refine ⟨?discover, ?crc, ?row⟩
    case discover =>
      intro hp hn hr
      rw [exec, execPollDiscover, performedAt_eq (by simp [hp, hn, opAt])]
      exact withPollCount_unwritten hl hw ha hr _
    case crc =>
      intro hp hn hr
      rw [exec, execPollCrc, performedAt_eq (by simp [hp, hn, opAt])]
      exact withPollCount_unwritten hl hw ha hr _
    case row =>
      intro hplace w e hr
      have ho : ∃ i, opAt s.phase s.idx = some i ∧ polls i = true := by
        rcases hplace with ⟨hp, hn⟩ | ⟨hp, hn⟩
        · exact ⟨.pollDiscover, by simp [hp, hn, opAt], rfl⟩
        · exact ⟨.pollCrc, by simp [hp, hn, opAt], rfl⟩
      obtain ⟨i, ho, hi⟩ := ho
      rw [exec, execWaitUntil, performedWhen_eq ho hi]
      exact withPollCount_unwritten hl hw ha hr _

end Sys2Proof.Machine

/-! ### Reset values, codes and status predicates -/

namespace Sys2Proof.Machine

/-- Settles O1: the reset state, field by field. -/
theorem resetStateIsIdleAndUnwritten : Obligations.ResetStateIsIdleAndUnwritten :=
  ⟨rfl, rfl, rfl, rfl, rfl, rfl, rfl, rfl, rfl, rfl, rfl, rfl, rfl⟩

theorem Phase.ofCode_code (p : Phase) : Phase.ofCode p.code = some p := by cases p <;> rfl

theorem ErrKind.ofCode_code (e : ErrKind) : ErrKind.ofCode e.code = some e := by cases e <;> rfl

/-- Settles O59: the codes are the tables' numbers, read back phase by phase and kind by kind. -/
theorem statusCodesReadBack : Obligations.StatusCodesReadBack :=
  ⟨rfl, rfl, fun _ => ⟨rfl, rfl, rfl, rfl, rfl⟩, Phase.ofCode_code, by decide, ErrKind.ofCode_code, by decide⟩

/-- Settles O60: the phase decides, and each phase makes one predicate true. -/
theorem exactlyOneStatusPredicateHolds : Obligations.ExactlyOneStatusPredicateHolds := by
  unfold Obligations.ExactlyOneStatusPredicateHolds
  intro s
  unfold State.idle State.busy State.done State.failed
  cases s.phase <;> rfl

end Sys2Proof.Machine

/-! ### Everything a row of the opcode table can do -/

namespace Sys2Proof.Machine

/-- The value a function row gives (R101); none for the other rows. -/
def functionValue : Instr → Option Word
  | .crcFold acc w => some (crcFold acc w)
  | .lcgSeed kb => some (lcgSeed kb)
  | .lcgNext x => some (lcgNext x)
  | .negate v => some (negate v)
  | .cipherMask off k => some (cipherMask off k)
  | .cipherXor w off k => some (cipherXor w off k)
  | .start _ | .pollDiscover | .recogA | .recogB | .hdrUnit | .hdrEnd | .infoAgain | .keyA | .keyB | .handshake | .length
  | .payloadWord | .finFold | .pollCrc | .crcAck | .crcSend | .abort | .reset | .exchange _ | .waitUntil _ _ => none

/-- The ways in which row `i`, run in `s`, answers next: an operation is answered or fails (R110, R224), `FIN_FOLD` folds, a
command is obeyed or ignored (R106), a primitive exchanges (R110, R112), a function row gives a value (R101). -/
inductive Effect (s : State) : Instr → State → Prop where
  | answered {i : Instr} {tx rx : Word} (ho : opAt s.phase s.idx = some i) (hi : i ≠ .finFold) (htx : sentWord s i = some tx)
      (ha : s.answer = .ok rx) : Effect s i (afterAnswer i s tx rx)
  | failed {i : Instr} {tx : Word} (ho : opAt s.phase s.idx = some i) (hi : i ≠ .finFold) (htx : sentWord s i = some tx)
      (ha : s.answer = .fail) : Effect s i (((beforeExchange i s).handOver tx).raise .transportFailure)
  | folded (ho : opAt s.phase s.idx = some .finFold) :
      Effect s .finFold (s.foldFinal (crcFold s.checksum.bits s.checksumFinalizer.bits)).clearPollCount
  | begun {len : Word} (hb : s.busy = false) (hlen : len ≤ params.maxLen) : Effect s (.start len) (s.beginSession len)
  | oversize {len : Word} (hb : s.busy = false) (hlen : params.maxLen < len) :
      Effect s (.start len) (s.enterFailed .invalidImage .idle 0)
  | startIgnored {len : Word} (hb : s.busy = true) : Effect s (.start len) s
  | aborted (hb : s.busy = true) : Effect s .abort (s.raise .aborted)
  | abortIgnored (hb : s.busy = false) : Effect s .abort s
  | reset : Effect s .reset s.resetBlock
  | exchangeAnswered {tx rx : Word} (hb : s.busy = true) (ha : s.answer = .ok rx) :
      Effect s (.exchange tx) (((s.handOver tx).traceExchange tx rx).yield rx)
  | exchangeFailed {tx : Word} (hb : s.busy = true) (ha : s.answer = .fail) :
      Effect s (.exchange tx) ((s.handOver tx).raise .transportFailure)
  | waitMatched {w e : Word} (hb : s.busy = true) (ha : s.answer = .ok e) :
      Effect s (.waitUntil w e) (((s.handOver w).traceExchange w e).yield e)
  | waitMissed {w e rx : Word} (hb : s.busy = true) (ha : s.answer = .ok rx) (hr : rx ≠ e) :
      Effect s (.waitUntil w e) ((s.handOver w).traceExchange w rx).pollMissed
  | waitFailed {w e : Word} (hb : s.busy = true) (ha : s.answer = .fail) :
      Effect s (.waitUntil w e) ((s.handOver w).raise .transportFailure)
  | value {i : Instr} {v : Word} (hv : functionValue i = some v) : Effect s i (s.yield v)

/-- An operation runs in its control state only (R100, log 7). -/
theorem exec_next_performed {i : Instr} {s t : State} (hp : (pointOf i).isSome = true) (h : exec i s = .next t) :
    opAt s.phase s.idx = some i := by
  cases i with
  | pollDiscover | recogA | recogB | hdrUnit | hdrEnd | infoAgain | keyA | keyB | handshake | length | payloadWord | finFold
  | pollCrc | crcAck | crcSend => exact (performedAt_next.mp h).1
  | _ => cases hp

theorem effect_of_operation {i : Instr} {s t : State} (hp : (pointOf i).isSome = true) (h : exec i s = .next t) :
    Effect s i t := by
  have ho := exec_next_performed hp h
  by_cases hi : i = .finFold
  · subst hi
    rw [exec_finFold_next h]
    exact .folded ho
  · obtain ⟨tx, htx, ⟨rx, ha, rfl⟩ | ⟨ha, rfl⟩⟩ := exec_op_cases ho hi h
    · exact .answered ho hi htx ha
    · exact .failed ho hi htx ha

/-- The one inversion of `exec`: a row that answers next has had one of its effects. -/
theorem exec_effect {i : Instr} {s t : State} (h : exec i s = .next t) : Effect s i t := by
  cases i with
  | start len =>
    simp only [exec, execStart] at h
    split at h
    next hb => cases h; exact .startIgnored hb
    next hb =>
      split at h
      next hlen => cases h; exact .oversize (Bool.eq_false_of_not_eq_true hb) hlen
      next hlen => cases h; exact .begun (Bool.eq_false_of_not_eq_true hb) (BitVec.not_lt.mp hlen)
  | abort =>
    simp only [exec, execAbort] at h
    split at h
    next hb => cases h; exact .aborted hb
    next hb => cases h; exact .abortIgnored (Bool.eq_false_of_not_eq_true hb)
  | reset => cases h; exact .reset
  | exchange tx =>
    obtain ⟨⟨i, ho, -⟩, h⟩ := performedWhen_next.mp h
    rcases s.exchange_cases tx State.yield with ⟨rx, ha, e⟩ | ⟨ha, e⟩ <;> rw [e] at h <;> cases h
    · exact .exchangeAnswered (opAt_busy ho) ha
    · exact .exchangeFailed (opAt_busy ho) ha
  | waitUntil w e =>
    obtain ⟨⟨i, ho, -⟩, h⟩ := performedWhen_next.mp h
    replace h := withPollCount_next h
    rcases s.pollOnce_cases w e (fun s' => s'.yield e) with ⟨ha, e'⟩ | ⟨rx, ha, hr, e'⟩ | ⟨ha, e'⟩ <;>
      rw [e'] at h <;> cases h
    · exact .waitMatched (opAt_busy ho) ha
    · exact .waitMissed (opAt_busy ho) ha hr
    · exact .waitFailed (opAt_busy ho) ha
  | crcFold | lcgSeed | lcgNext | negate | cipherMask | cipherXor => cases h; exact .value rfl
  | pollDiscover | recogA | recogB | hdrUnit | hdrEnd | infoAgain | keyA | keyB | handshake | length | payloadWord | finFold
  | pollCrc | crcAck | crcSend => exact effect_of_operation rfl h

/-- Settles O29: effect by effect. An answered operation writes the registers of its row; every failure, a poll's included, and
DONE take the session registers' values and leave their bits. -/
theorem datapathRegistersHaveTheirWriters : Obligations.DatapathRegistersHaveTheirWriters := by
  unfold Obligations.DatapathRegistersHaveTheirWriters
  intro i s t h
  cases exec_effect h with
  | @answered _ tx rx ho hi =>
    cases opAt_iff_performs.mp ho with
    | finFold => exact absurd rfl hi
    | pollDiscover | pollCrc =>
      simp only [afterAnswer, afterExchange]
      split
      · simp [beforeExchange]
      · rcases ((s.handOver tx).traceExchange tx rx).pollMissed_cases with e | e | e <;>
          simp [e, sessionLost, Reg.discard, beforeExchange]
    | hdrUnit =>
      simp only [afterAnswer, afterExchange, State.afterUnit]
      split <;> simp [beforeExchange]
    | payloadWord => simp [afterAnswer, afterExchange, beforeExchange, State.afterWord]
    | _ => simp [sessionLost, Reg.discard, afterAnswer, afterExchange, beforeExchange]
  | failed =>
    by_cases hw : i = .payloadWord
    · subst hw; simp [sessionLost, Reg.discard, beforeExchange]
    · simp [sessionLost, Reg.discard, beforeExchange_eq hw]
  | @waitMissed w _ rx =>
    rcases ((s.handOver w).traceExchange w rx).pollMissed_cases with e | e | e <;> simp [e, sessionLost, Reg.discard]
  | _ => simp [sessionLost, Reg.discard, State.beginSession]

/-- Settles O30: effect by effect. Only failures and commands write `err` and the failure record; an answered operation writes
the control state it is performed in. -/
theorem statusRegistersHaveTheirWriters : Obligations.StatusRegistersHaveTheirWriters := by
  unfold Obligations.StatusRegistersHaveTheirWriters
  intro i s t h
  cases exec_effect h with
  | @answered _ tx rx ho hi =>
    cases opAt_iff_performs.mp ho with
    | finFold => exact absurd rfl hi
    | pollDiscover | pollCrc =>
      simp only [afterAnswer, afterExchange]
      split
      · simp [beforeExchange, ho]
      · rcases ((s.handOver tx).traceExchange tx rx).pollMissed_cases with e | e | e <;> simp [e, beforeExchange, ho]
    | hdrUnit =>
      simp only [afterAnswer, afterExchange, State.afterUnit]
      split <;> simp [beforeExchange, ho]
    | payloadWord => simp [afterAnswer, afterExchange, beforeExchange, State.afterWord, ho]
    | _ => simp [afterAnswer, afterExchange, beforeExchange, ho]
  | failed => simp
  | folded ho => simp [ho]
  | @waitMissed w _ rx =>
    rcases ((s.handOver w).traceExchange w rx).pollMissed_cases with e | e | e <;> simp [e]
  | _ => simp [State.beginSession]

end Sys2Proof.Machine

/-! ### The image: reads and packing (R52 to R58) -/

namespace Sys2Proof.Machine

/-- Below `img_len` a read is the image's byte (R52). -/
theorem imgRead_of_lt {m : Image} {len a : Word} (h : a < len) : imgRead m len a = m.read a.toNat := if_pos h

/-- At and above it, the pad byte (R53). -/
theorem imgRead_of_le {m : Image} {len a : Word} (h : len ≤ a) : imgRead m len a = 0x00 := if_neg (BitVec.not_lt.mpr h)

/-- Two bytes shifted into place are their concatenation under zeros. -/
theorem shiftedBytes_eq_append₂ (b₀ b₁ : Byte) : zext32 b₀ ||| zext32 b₁ <<< 8 = (0 : BitVec 16) ++ (b₁ ++ b₀) :=
  calc zext32 b₀ ||| zext32 b₁ <<< 8
    _ = (b₁ ++ b₀).setWidth 32 := by rw [BitVec.setWidth_append_eq_shiftLeft_setWidth_or, BitVec.or_comm]
    _ = (0 : BitVec 16) ++ (b₁ ++ b₀) := BitVec.setWidth_eq_append (by decide)

/-- Four bytes shifted into place are their concatenation. -/
theorem shiftedBytes_eq_append₄ (b₀ b₁ b₂ b₃ : Byte) :
    zext32 b₀ ||| zext32 b₁ <<< 8 ||| zext32 b₂ <<< 16 ||| zext32 b₃ <<< 24 = b₃ ++ b₂ ++ b₁ ++ b₀ :=
  calc zext32 b₀ ||| zext32 b₁ <<< 8 ||| zext32 b₂ <<< 16 ||| zext32 b₃ <<< 24
    _ = zext32 b₃ <<< 24 ||| zext32 b₂ <<< 16 ||| zext32 b₁ <<< 8 ||| zext32 b₀ := by
      rw [BitVec.or_comm, BitVec.or_comm (zext32 b₀ ||| _), BitVec.or_comm (zext32 b₀), BitVec.or_assoc, BitVec.or_assoc]
    _ = (b₃ ++ b₂ ++ b₁ ++ b₀).setWidth 32 := by rw [BitVec.setWidth_append_append_append_eq_shiftLeft_setWidth_or]
    _ = b₃ ++ b₂ ++ b₁ ++ b₀ := BitVec.setWidth_eq _

/-- Settles O55: the two branches of the pad rule, and the shifts of `img16` and `img32` as concatenations. -/
theorem imageReadsPadAndAssembleLowByteFirst : Obligations.ImageReadsPadAndAssembleLowByteFirst := fun _ _ _ =>
  ⟨imgRead_of_lt, imgRead_of_le, shiftedBytes_eq_append₂ _ _, shiftedBytes_eq_append₄ _ _ _ _⟩

end Sys2Proof.Machine

/-! ### The image is not written (R51) -/

namespace Sys2Proof.Machine

@[simp] theorem image_beforeExchange (i : Instr) (s : State) : (beforeExchange i s).image = s.image := by
  unfold beforeExchange; split <;> rfl

@[simp] theorem State.image_pollMissed (s : State) : s.pollMissed.image = s.image := by
  rcases s.pollMissed_cases with e | e | e <;> simp [e]

@[simp] theorem State.image_afterUnit (s : State) (off : Word) : (s.afterUnit off).image = s.image := by
  unfold State.afterUnit; split <;> rfl

@[simp] theorem State.image_beginSession (s : State) (len : Word) : (s.beginSession len).image = s.image := by
  simp [State.beginSession]

/-- What follows an exchange leaves the image. -/
@[simp] theorem image_afterExchange (i : Instr) (s : State) (rx : Word) : (afterExchange i s rx).image = s.image := by
  cases i with
  | pollDiscover | pollCrc => simp only [afterExchange]; split <;> simp
  | payloadWord => simp [afterExchange, State.afterWord]
  | _ => simp [afterExchange]

theorem Effect.image_eq {s t : State} {i : Instr} (e : Effect s i t) : t.image = s.image := by
  cases e with
  | answered => simp [afterAnswer]
  | _ => simp

/-- Settles O28: no effect of a row touches the image, and reads see nothing else. -/
theorem noInstructionWritesTheImage : Obligations.NoInstructionWritesTheImage := by
  unfold Obligations.NoInstructionWritesTheImage
  intro i s t h
  have himage := (exec_effect h).image_eq
  exact ⟨himage, fun a => by rw [himage]⟩

end Sys2Proof.Machine

/-! ### The event history (R244): only an answered exchange adds to it -/

namespace Sys2Proof.Machine

/-- The history is read off the trace. -/
theorem State.history_congr {s t : State} (h : t.trace = s.trace) : t.history = s.history := by
  simp [State.history, h]

/-- A change of phase leaves a trace record (R39) and no history record. -/
@[simp] theorem State.history_goto (s : State) (p : Phase) (n : BitVec 7) : (s.goto p n).history = s.history := by
  by_cases h : p = s.phase <;> simp [State.history, h]

@[simp] theorem State.history_traceExchange (s : State) (tx rx : Word) :
    (s.traceExchange tx rx).history = s.history ++ [(s.phase, s.idx, tx, rx)] := by
  simp [State.history]

@[simp] theorem State.history_handOver (s : State) (tx : Word) : (s.handOver tx).history = s.history := rfl
@[simp] theorem State.history_yield (s : State) (v : Word) : (s.yield v).history = s.history := rfl
@[simp] theorem State.history_foldFinal (s : State) (c : Word) : (s.foldFinal c).history = s.history := rfl

@[simp] theorem State.history_enterFailed (s : State) (k : ErrKind) (p : Phase) (n : BitVec 7) :
    (s.enterFailed k p n).history = s.history := State.history_goto _ _ _
@[simp] theorem State.history_raise (s : State) (k : ErrKind) : (s.raise k).history = s.history :=
  State.history_enterFailed s k _ _
@[simp] theorem State.history_resetBlock (s : State) : s.resetBlock.history = s.history := State.history_goto _ _ _

@[simp] theorem State.history_clearPollCount (s : State) : s.clearPollCount.history = s.history :=
  State.history_congr s.trace_clearPollCount
@[simp] theorem State.history_beginSession (s : State) (len : Word) : (s.beginSession len).history = s.history :=
  (State.history_goto _ _ _).trans (State.history_clearPollCount _)

@[simp] theorem State.history_pollMissed (s : State) : s.pollMissed.history = s.history := by
  rcases s.pollMissed_cases with e | e | e <;> rw [e]
  · rfl
  · exact State.history_raise _ _

@[simp] theorem State.history_gotoPayloadOrFinalize (s : State) (off len : Word) :
    (s.gotoPayloadOrFinalize off len).history = s.history := by
  unfold State.gotoPayloadOrFinalize; split <;> exact State.history_goto _ _ _

@[simp] theorem State.history_afterUnit (s : State) (off : Word) : (s.afterUnit off).history = s.history := by
  unfold State.afterUnit
  split
  · exact State.history_goto _ _ _
  · rfl

@[simp] theorem history_beforeExchange (i : Instr) (s : State) : (beforeExchange i s).history = s.history := by
  unfold beforeExchange; split <;> rfl

/-- What follows an exchange changes the phase at most. -/
@[simp] theorem history_afterExchange (i : Instr) (s : State) (rx : Word) : (afterExchange i s rx).history = s.history := by
  cases i with
  | pollDiscover =>
    simp only [afterExchange]
    split
    · exact State.history_goto _ _ _
    · exact State.history_pollMissed s
  | pollCrc =>
    simp only [afterExchange]
    split
    · rfl
    · exact State.history_pollMissed s
  | hdrUnit => exact State.history_afterUnit _ _
  | length | payloadWord => exact State.history_gotoPayloadOrFinalize _ _ _
  | recogB | infoAgain | keyB | handshake | crcSend => exact State.history_goto _ _ _
  | _ => rfl

/-- An answered operation adds the record of its exchange, in its own control state (R110). -/
@[simp] theorem history_afterAnswer (i : Instr) (s : State) (tx rx : Word) :
    (afterAnswer i s tx rx).history = s.history ++ [(s.phase, s.idx, tx, rx)] := by
  simp [afterAnswer]

end Sys2Proof.Machine

/-! ### At most one exchange (R62) -/

namespace Sys2Proof.Machine

/-- From `s` to `t` nothing was exchanged, or one word was: answered and recorded, or failed. -/
def AtMostOneExchange (s t : State) : Prop :=
  (t.sent = s.sent ∧ t.history = s.history ∧ t.peer = s.peer) ∨
  (∃ tx, t.sent = s.sent ++ [tx] ∧ t.peer = s.peer.tail ∧
    ((∃ rx, s.answer = .ok rx ∧ t.history = s.history ++ [(s.phase, s.idx, tx, rx)]) ∨
      (s.answer = .fail ∧ t.history = s.history ∧ t.phase = .failed)))

/-- The effects of a row in three groups: those without an exchange, the answered ones, the failed ones. -/
theorem Effect.atMostOneExchange {s t : State} {i : Instr} (e : Effect s i t) : AtMostOneExchange s t := by
  cases e with
  | startIgnored | abortIgnored => exact .inl ⟨rfl, rfl, rfl⟩
  | oversize | aborted | reset | value => exact .inl ⟨rfl, by simp, rfl⟩
  | begun => exact .inl ⟨by simp [State.beginSession], by simp, by simp [State.beginSession]⟩
  | folded => exact .inl ⟨by simp, by simp, by simp⟩
  | @answered _ tx rx _ _ _ ha => exact .inr ⟨tx, by simp, by simp, .inl ⟨rx, ha, by simp⟩⟩
  | @exchangeAnswered tx rx _ ha => exact .inr ⟨tx, rfl, rfl, .inl ⟨rx, ha, by simp⟩⟩
  | @waitMatched w rx _ ha => exact .inr ⟨w, rfl, rfl, .inl ⟨rx, ha, by simp⟩⟩
  | @waitMissed w _ rx _ ha =>
    obtain ⟨hsent, hpeer, -⟩ := ((s.handOver w).traceExchange w rx).pollMissed_frame
    exact .inr ⟨w, hsent, hpeer, .inl ⟨rx, ha, by simp⟩⟩
  | @failed _ tx _ _ _ ha => exact .inr ⟨tx, by simp, by simp, .inr ⟨ha, by simp, rfl⟩⟩
  | @exchangeFailed tx _ ha | @waitFailed tx _ _ ha => exact .inr ⟨tx, rfl, rfl, .inr ⟨ha, by simp, rfl⟩⟩

/-- Settles O31: a step runs one row past the boundary, or passes the boundary only; the boundary leaves the link alone. -/
theorem stepAddsAtMostOneExchange : Obligations.StepAddsAtMostOneExchange := by
  unfold Obligations.StepAddsAtMostOneExchange
  intro s t h
  rcases step_next h with ⟨i, -, h⟩ | ⟨-, rfl⟩
  · exact (exec_effect h).atMostOneExchange
  · exact .inl ⟨rfl, rfl, rfl⟩

end Sys2Proof.Machine

/-! ## Proofs of the statements of `30_encoding.md` -/

/-! ### The fixed bits and the field of a format (R76) -/

namespace Sys2Proof.Machine

/-- How many low bits of a word its format leaves to the field (R76). -/
def formatBits : LinkFormat → Nat
  | .constant _ => 0
  | .headerUnit => 16
  | .handshake => 8
  | .lengthWord => 32
  | .payload => 32
  | .checksum => 16

/-- The field width of an operation is its format's (R100). -/
theorem fieldBits_eq (i : Instr) : fieldBits i = (linkFormat i).map formatBits := by cases i <;> rfl

/-- The bits a format leaves open are the low `formatBits`. -/
theorem openBits_toNat (fmt : LinkFormat) (w : Word) :
    (w &&& ~~~formatMask fmt).toNat = w.toNat % 2 ^ formatBits fmt := by
  have hmask : (~~~formatMask fmt).toNat = 2 ^ formatBits fmt - 1 := by cases fmt <;> simp [formatMask, formatBits, params]
  rw [BitVec.toNat_and, hmask, Nat.and_two_pow_sub_one_eq_mod]

/-- The `match` of a format lies within its `mask` (R102). -/
theorem formatMatch_and_mask (fmt : LinkFormat) : formatMatch fmt &&& formatMask fmt = formatMatch fmt := by
  cases fmt with
  | constant c => exact BitVec.and_allOnes
  | _ => rfl

/-- A frame is well formed if its field is narrow enough (R76). -/
theorem frame_wf_iff_lt {i : Instr} {fmt : LinkFormat} (h : linkFormat i = some fmt) (x : Word) :
    (Frame.mk i x).wf = true ↔ x.toNat < 2 ^ formatBits fmt := by
  have hbits : fieldBits i = some (formatBits fmt) := by rw [fieldBits_eq, h]; rfl
  simp [Frame.wf, Frame.sends, Frame.fits, hbits]

/-- That is, if its field stays within the open bits. -/
theorem frame_wf_iff {i : Instr} {fmt : LinkFormat} (h : linkFormat i = some fmt) (x : Word) :
    (Frame.mk i x).wf = true ↔ x &&& ~~~formatMask fmt = x := by
  rw [frame_wf_iff_lt h, ← BitVec.toNat_inj, openBits_toNat]
  exact ⟨Nat.mod_eq_of_lt, fun h => h ▸ Nat.mod_lt _ (Nat.two_pow_pos _)⟩

/-- A well-formed frame belongs to an operation with a format. -/
theorem linkFormat_of_wf {f : Frame} (h : f.wf = true) : ∃ fmt, linkFormat f.instr = some fmt := by
  simp only [Frame.wf, Frame.sends, fieldBits_eq, Option.isSome_map, Bool.and_eq_true] at h
  exact Option.isSome_iff_exists.mp h.1

/-- The word of a field within the open bits has the format's fixed bits. -/
theorem encodeWord_and_mask {fmt : LinkFormat} {x : Word} (hx : x &&& ~~~formatMask fmt = x) :
    encodeWord fmt x &&& formatMask fmt = formatMatch fmt := by
  have h0 : x &&& formatMask fmt = 0 := by
    rw [← hx, BitVec.and_assoc, BitVec.not_and_self]; exact BitVec.and_zero
  rw [encodeWord, BitVec.and_or_distrib_right, formatMatch_and_mask, h0]
  exact BitVec.or_zero

/-- And its open bits are the field. -/
theorem encodeWord_openBits {fmt : LinkFormat} {x : Word} (hx : x &&& ~~~formatMask fmt = x) :
    encodeWord fmt x &&& ~~~formatMask fmt = x := by
  have h0 : formatMatch fmt &&& ~~~formatMask fmt = 0 := by
    rw [← formatMatch_and_mask, BitVec.and_assoc, BitVec.and_not_self]; exact BitVec.and_zero
  rw [encodeWord, BitVec.and_or_distrib_right, h0, hx]
  exact BitVec.zero_or

/-- A word with the format's fixed bits is the word of its open bits. -/
theorem encodeWord_of_fixedBits {fmt : LinkFormat} {w : Word} (hw : w &&& formatMask fmt = formatMatch fmt) :
    encodeWord fmt (w &&& ~~~formatMask fmt) = w := by
  rw [encodeWord, ← hw, ← BitVec.and_or_distrib_left, BitVec.or_not_self, BitVec.and_allOnes]

end Sys2Proof.Machine

/-! ### Wire order (R59) and the decoder (R102, R103) -/

namespace Sys2Proof.Machine

/-- Four bytes are the wire bytes of the word they make up (R59). -/
theorem wireBytes_append (b₃ b₂ b₁ b₀ : Byte) : wireBytes (b₃ ++ b₂ ++ b₁ ++ b₀) = [b₃, b₂, b₁, b₀] := by
  simp (disch := omega) only [wireBytes, BitVec.extractLsb'_append_eq_of_le, BitVec.extractLsb'_append_eq_of_add_le]
  simp

/-- A word is made up of its wire bytes. -/
theorem append_of_wireBytes (w : Word) :
    w.extractLsb' 24 8 ++ w.extractLsb' 16 8 ++ w.extractLsb' 8 8 ++ w.extractLsb' 0 8 = w := by
  rw [BitVec.extractLsb'_append_extractLsb'_eq_extractLsb' (show 24 = 16 + 8 from rfl),
    BitVec.extractLsb'_append_extractLsb'_eq_extractLsb' (show 16 = 8 + 8 from rfl),
    BitVec.extractLsb'_append_extractLsb'_eq_extractLsb' (show 8 = 0 + 8 from rfl), BitVec.extractLsb'_eq_self]

/-- One word comes off a list of bytes exactly where the list begins with its wire bytes. -/
theorem takeWord_eq_some_iff {bytes rest : List Byte} {w : Word} :
    takeWord bytes = some (w, rest) ↔ bytes = wireBytes w ++ rest := by
  constructor
  · intro h
    unfold takeWord at h
    split at h
    next b₃ b₂ b₁ b₀ tail => cases h; rw [wireBytes_append]; rfl
    all_goals cases h
  · rintro rfl
    exact congrArg (fun v => some (v, rest)) (append_of_wireBytes w)

/-- Everything that decodes: the bytes begin with a word of the format of the control state's operation, and the frame is its
open bits. -/
theorem decode_ok_iff {p : Phase} {n : BitVec 7} {bytes rest : List Byte} {f : Frame} :
    decode p n bytes = .ok (f, rest) ↔ ∃ i fmt w, opAt p n = some i ∧ linkFormat i = some fmt ∧
      bytes = wireBytes w ++ rest ∧ w &&& formatMask fmt = formatMatch fmt ∧ f = ⟨i, w &&& ~~~formatMask fmt⟩ := by
  constructor
  · intro h
    unfold decode at h
    split at h
    next => cases h
    next i ho =>
      split at h
      next => cases h
      next fmt hf =>
        split at h
        next => cases h
        next w tail hw =>
          split at h
          next g hg =>
            unfold decodeWord at hg
            split at hg
            next hfixed =>
              cases hg; cases h
              exact ⟨i, fmt, w, ho, hf, takeWord_eq_some_iff.mp hw, hfixed, rfl⟩
            next => cases hg
          next => cases h
  · rintro ⟨i, fmt, w, ho, hf, hbytes, hfixed, rfl⟩
    simp [decode, decodeWord, ho, hf, takeWord_eq_some_iff.mpr hbytes, hfixed]

/-- Settles O56: the word of a field within the open bits has the fixed bits of its format and gives the field back. -/
theorem decodeOfEncodeIsTheFrame : Obligations.DecodeOfEncodeIsTheFrame := by
  unfold Obligations.DecodeOfEncodeIsTheFrame
  intro ⟨i, x⟩ p n rest hwf ho
  obtain ⟨fmt, hf⟩ := linkFormat_of_wf hwf
  have hx := (frame_wf_iff hf x).mp hwf
  refine decode_ok_iff.mpr ⟨i, fmt, encodeWord fmt x, ho, hf, ?_, encodeWord_and_mask hx, ?_⟩
  · simp only [encode, hf]
  · rw [encodeWord_openBits hx]

/-- Settles O57: the open bits of the word are a legal field, and the word is the encoding of them. -/
theorem encodeOfDecodeIsTheBytes : Obligations.EncodeOfDecodeIsTheBytes := by
  unfold Obligations.EncodeOfDecodeIsTheBytes
  intro f p n bytes rest h
  obtain ⟨i, fmt, w, ho, hf, rfl, hfixed, rfl⟩ := decode_ok_iff.mp h
  refine ⟨(frame_wf_iff hf _).mpr ?_, ho, ?_⟩
  · rw [BitVec.and_assoc, BitVec.and_self]
  · simp only [encode, hf, encodeWord_of_fixedBits hfixed]

end Sys2Proof.Machine

/-! ### The words the block sends (R76, R79 to R84) -/

namespace Sys2Proof.Machine

/-- A header unit holds two bytes (R79). -/
theorem img16_lt (m : Image) (len a : Word) : (img16 m len a).toNat < 2 ^ 16 := by
  rw [img16, shiftedBytes_eq_append₂, BitVec.toNat_append, show (0 : BitVec 16).toNat = 0 from rfl, Nat.zero_shiftLeft,
    Nat.zero_or]
  exact BitVec.isLt _

/-- In the invariant the word of an operation is the encoding of a well-formed frame: the checksum fits its 16 bits by R45, the
other fields by the way they are assembled. -/
theorem SessionInv.sentWord_encodes {s : State} {i : Instr} {tx : Word} (h : SessionInv s)
    (ho : opAt s.phase s.idx = some i) (htx : sentWord s i = some tx) :
    ∃ x, (Frame.mk i x).wf = true ∧ encode ⟨i, x⟩ = wireBytes tx := by
  cases opAt_iff_performs.mp ho with
  | finFold => cases htx
  | pollDiscover | recogA | recogB | hdrEnd | infoAgain | keyA | keyB | pollCrc | crcAck =>
    cases htx
    exact ⟨0, rfl, rfl⟩
  | hdrUnit =>
    cases htx
    exact ⟨_, (frame_wf_iff_lt rfl _).mpr (img16_lt _ _ _), congrArg wireBytes BitVec.zero_or⟩
  | handshake =>
    cases htx
    refine ⟨s.hh.bits &&& 0xFF, (frame_wf_iff_lt rfl _).mpr ?_, congrArg wireBytes (BitVec.or_comm _ _)⟩
    rw [and_keyMask_toNat]
    exact Nat.mod_lt _ (by decide)
  | length | payloadWord =>
    cases htx
    exact ⟨_, (frame_wf_iff_lt rfl _).mpr (BitVec.isLt _), congrArg wireBytes BitVec.zero_or⟩
  | crcSend =>
    cases htx
    have hsum := (h.regs (opAt_busy ho)).checksumRange
    exact ⟨_, (frame_wf_iff_lt rfl _).mpr (Nat.lt_succ_of_le hsum), congrArg wireBytes BitVec.zero_or⟩

/-- So it decodes in its control state, and to the operation's own frame (R103). -/
theorem SessionInv.sentWord_decodes {s : State} {i : Instr} {tx : Word} (h : SessionInv s)
    (ho : opAt s.phase s.idx = some i) (htx : sentWord s i = some tx) :
    ∃ x, (Frame.mk i x).wf = true ∧ decode s.phase s.idx (wireBytes tx) = .ok (⟨i, x⟩, []) := by
  obtain ⟨x, hwf, henc⟩ := h.sentWord_encodes ho htx
  refine ⟨x, hwf, ?_⟩
  rw [← henc, ← List.append_nil (encode _)]
  exact decodeOfEncodeIsTheFrame _ _ _ _ hwf ho

/-- A row that sends a word sends the operation's own, or is a primitive and sends its operand (R110, R112). -/
theorem Effect.sent_cases {s t : State} {i : Instr} (e : Effect s i t) : t.sent = s.sent ∨
    ∃ tx, t.sent = s.sent ++ [tx] ∧ (sentWord s i = some tx ∨ i = .exchange tx ∨ ∃ w, i = .waitUntil tx w) := by
  cases e with
  | startIgnored | abortIgnored | oversize | aborted | reset | value => exact .inl rfl
  | begun | folded => exact .inl (by simp [State.beginSession])
  | @answered _ tx _ _ _ htx | @failed _ tx _ _ htx => exact .inr ⟨tx, by simp, .inl htx⟩
  | @exchangeAnswered tx | @exchangeFailed tx => exact .inr ⟨tx, rfl, .inr (.inl rfl)⟩
  | @waitMatched w e | @waitFailed w e => exact .inr ⟨w, rfl, .inr (.inr ⟨e, rfl⟩)⟩
  | @waitMissed w e => exact .inr ⟨w, (State.pollMissed_frame _).1, .inr (.inr ⟨e, rfl⟩)⟩

/-- An operation's word does not depend on the schedule. -/
@[simp] theorem sentWord_passBoundary (s : State) (i : Instr) : sentWord s.passBoundary i = sentWord s i := by
  cases i <;> rfl

/-- What a boundary runs is the operation of the control state or a host command (R232). -/
theorem State.select_run {s : State} {i : Instr} (h : s.select = .run i) :
    opAt s.phase s.idx = some i ∨ i = .reset ∨ i = .abort ∨ ∃ len, i = .start len := by
  rcases s.select_cases with ⟨-, e⟩ | ⟨-, -, e⟩ | ⟨-, -, -, e⟩ | ⟨j, -, -, -, ho, e⟩ | ⟨len, -, -, -, e⟩ | ⟨-, -, -, e⟩ <;>
    rw [e] at h <;> cases h
  · exact .inr (.inl rfl)
  · exact .inr (.inr (.inl rfl))
  · exact .inl ho
  · exact .inr (.inr (.inr ⟨len, rfl⟩))

/-- A step that sends a word has run the operation of the control state, and the word is the operation's. -/
theorem step_sends {s t : State} {tx : Word} (h : step s = .next t) (hsent : t.sent = s.sent ++ [tx]) :
    ∃ i, opAt s.phase s.idx = some i ∧ sentWord s i = some tx := by
  rcases step_next h with ⟨i, hsel, he⟩ | ⟨-, rfl⟩
  · obtain hno | ⟨tx', hs, hw⟩ := (exec_effect he).sent_cases
    · simp [hsent] at hno
    · obtain rfl : tx = tx' := by simpa [hsent] using hs
      rcases State.select_run hsel with ho | rfl | rfl | ⟨len, rfl⟩
      · refine ⟨i, ho, ?_⟩
        cases opAt_iff_performs.mp ho <;> simpa using hw
      all_goals simp [sentWord] at hw
  · simp at hsent

/-- Settles O37: what a step sends is the word of the control state's operation, which decodes there. -/
theorem sentWordsDecodeInTheirControlState : Obligations.SentWordsDecodeInTheirControlState := by
  unfold Obligations.SentWordsDecodeInTheirControlState
  intro s t tx h he hsent
  obtain ⟨i, ho, htx⟩ := step_sends he hsent
  obtain ⟨x, hwf, hdec⟩ := h.sentWord_decodes ho htx
  exact ⟨_, hdec, hwf, ho⟩

end Sys2Proof.Machine

/-! ### The length word and the handshake word (R81, R82) -/

namespace Sys2Proof.Machine

/-- The division of the length word leaves no remainder (R82). -/
theorem lengthWord_exact {l : Word} (h16 : l.toNat % 16 = 0) : lengthWord l * 4 = l - 0x190 := by
  have hn := lengthWord_toNat l
  bv_omega

/-- Four times the length word, plus the bias, is `L` again (R82). -/
theorem lengthWord_tells {l : Word} (h16 : l.toNat % 16 = 0) : lengthWord l * params.lenDivisor + params.lenBias = l := by
  have h := lengthWord_exact h16
  simp only [params, h]
  bv_omega

/-- Settles O52: the wrapped difference on both sides of the bias. -/
theorem lengthWordWrapsBelowTheBias : Obligations.LengthWordWrapsBelowTheBias := by
  unfold Obligations.LengthWordWrapsBelowTheBias
  intro l hmax h16
  have hn := lengthWord_toNat l
  refine ⟨fun hge => ?_, fun hlt => ?_, ?_⟩
  · bv_omega
  · bv_omega
  · rw [← lengthWord_exact h16]
    exact (BitVec.mul_twoPow_eq_shiftLeft _ 2).symm

/-- Settles O54: both words keep the low byte of the same sum. -/
theorem handshakeWordFromHhEqualsWordFromResponse : Obligations.HandshakeWordFromHhEqualsWordFromResponse := by
  unfold Obligations.HandshakeWordFromHhEqualsWordFromResponse
  intro r
  have hlow : hhOf (carriedByte r) &&& (0xFF : Word) = ((r >>> 16) + 0xF) &&& 0xFF := by
    apply BitVec.eq_of_toNat_eq
    rw [and_keyMask_toNat, and_keyMask_toNat, hhOf_toNat, carriedByte_toNat]
    bv_omega
  rw [handshakeWord_eq, hlow]

end Sys2Proof.Machine

/-! ### The reader of the traffic (R102) -/

namespace Sys2Proof.Machine

/-- A miss leaves the bits of the offset. -/
@[simp] theorem State.offset_pollMissed (s : State) : s.pollMissed.payloadOffset.bits = s.payloadOffset.bits := by
  rcases s.pollMissed_cases with e | e | e <;> simp [e]

/-- The offset moves in HEADER and PAYLOAD only, as the reader moves it (R24). -/
theorem afterExchange_offset {s : State} {i : Instr} (ho : opAt s.phase s.idx = some i) (rx : Word) :
    (afterExchange i s rx).payloadOffset.bits = s.payloadOffset.bits + advance s.phase := by
  cases opAt_iff_performs.mp ho with
  | pollDiscover hp | pollCrc hp => simp only [afterExchange]; split <;> simp [advance, hp]
  | hdrUnit hp hn =>
    by_cases h : s.idx.toNat = 94 <;>
      simp [afterExchange, State.afterUnit_last, State.afterUnit_more, h, advance, hp, params]
  | payloadWord hp hn => simp [afterExchange, State.afterWord, advance, hp]
  | recogA hp | recogB hp | hdrEnd hp | infoAgain hp | keyA hp | keyB hp | handshake hp | length hp | finFold hp | crcAck hp
  | crcSend hp => simp [afterExchange, advance, hp]

theorem afterAnswer_offset {s : State} {i : Instr} (ho : opAt s.phase s.idx = some i) (tx rx : Word) :
    (afterAnswer i s tx rx).payloadOffset.bits = s.payloadOffset.bits + advance s.phase := by
  have hsame : (beforeExchange i s).payloadOffset = s.payloadOffset := by unfold beforeExchange; split <;> rfl
  unfold afterAnswer
  simpa [hsame] using
    afterExchange_offset (s := ((beforeExchange i s).handOver tx).traceExchange tx rx) (by simpa using ho) rx

/-- The table asks for the loop test in LENGTH and PAYLOAD only (R148). -/
theorem successor_congr {more more' : Bool} {p : Phase} (h : p = .length ∨ p = .payload → more = more') (n : BitVec 7)
    (rx : Word) : successor more p n rx = successor more' p n rx := by
  cases p with
  | length => rw [h (.inl rfl)]
  | payload => rw [h (.inr rfl)]
  | _ => rfl

/-- PAYLOAD and FINALIZE are entered from LENGTH or a later phase only (R31). -/
theorem lengthOrLater_of_successor {more : Bool} {p q : Phase} {n m : BitVec 7} {rx : Word}
    (h : successor more p n rx = (q, m)) (hq : q = .payload ∨ q = .finalize) :
    p = .length ∨ p = .payload ∨ p = .finalize := by
  cases p with
  | length | payload | finalize => simp
  | idle | handshake | done | failed => cases h; simp at hq
  | discovery | recognize | header | headerDone | keyExchange =>
    simp only [successor] at h
    split at h <;> cases h <;> simp at hq

theorem afterLength_iff (s : State) : s.afterLength = true ↔ s.phase = .payload ∨ s.phase = .finalize := by
  unfold State.afterLength
  cases s.phase <;> simp

@[simp] theorem Cursor.phase_passFold (c : Cursor) : c.passFold.phase = c.phase := by unfold Cursor.passFold; split <;> rfl
@[simp] theorem Cursor.off_passFold (c : Cursor) : c.passFold.off = c.off := by unfold Cursor.passFold; split <;> rfl
@[simp] theorem Cursor.rounded_passFold (c : Cursor) : c.passFold.rounded = c.rounded := by
  unfold Cursor.passFold; split <;> rfl
@[simp] theorem Cursor.idx_passFold (c : Cursor) :
    c.passFold.idx = if c.phase = .finalize ∧ c.idx = 0 then 1 else c.idx := by unfold Cursor.passFold; split <;> rfl

@[simp] theorem Cursor.off_next (c : Cursor) (tx rx : Word) : (c.next tx rx).off = c.off + advance c.phase := by
  simp [Cursor.next]
@[simp] theorem Cursor.rounded_next (c : Cursor) (tx rx : Word) : (c.next tx rx).rounded =
    if c.phase = .length then tx * params.lenDivisor + params.lenBias else c.rounded := by simp [Cursor.next]

/-- The reader's next control state is the table's, past `FIN_FOLD`. -/
theorem Cursor.place_next {c : Cursor} {tx rx : Word} {p : Phase} {n : BitVec 7}
    (h : successor (decide ((c.next tx rx).off < (c.next tx rx).rounded)) c.phase c.idx rx = (p, n)) :
    (c.next tx rx).phase = p ∧ (c.next tx rx).idx = if p = .finalize ∧ n = 0 then 1 else n := by
  rw [Cursor.off_next, Cursor.rounded_next] at h
  simp [Cursor.next, h]

/-- From the length word on the reader knows `L`: the word tells it, and no later pair changes it (R82). -/
theorem Cursor.rounded_next_eq {s : State} {c : Cursor} {i : Instr} {tx : Word} (h : SessionInv s)
    (ho : opAt s.phase s.idx = some i) (htx : sentWord s i = some tx) (hp : c.phase = s.phase)
    (hl : s.afterLength = true → c.rounded = s.rounded) (hlate : s.phase = .length ∨ s.afterLength = true) (rx : Word) :
    (c.next tx rx).rounded = s.rounded := by
  rw [Cursor.rounded_next, hp]
  split
  next hlen =>
    obtain ⟨-, rfl⟩ : s.idx = 0 ∧ Instr.length = i := by simpa [opAt, hlen] using ho
    cases htx
    exact lengthWord_tells (roundedLength_bounds (h.regs (opAt_busy ho)).lengthRange).1
  next hlen => exact hl (hlate.resolve_left hlen)

/-- Settles O38: the word is an encoding and decodes; the reader's offset and `L` are the block's after the exchange, so the
table leads both to the same control state (R31). -/
theorem trafficReaderFollowsTheBlock : Obligations.TrafficReaderFollowsTheBlock := by
  unfold Obligations.TrafficReaderFollowsTheBlock
  intro s t c i tx rx h hl ho hi ha he hsent hp hn hoff hrounded
  obtain ⟨tx', htx, ⟨rx', ha', rfl⟩ | ⟨hf, -⟩⟩ := exec_op_cases ho hi he
  case inr => simp [ha] at hf
  obtain rfl : rx' = rx := by simpa [ha] using ha'.symm
  obtain rfl : tx' = tx := by simpa using hsent
  have hoffNext : (c.next tx' rx').off = (afterAnswer i s tx' rx').payloadOffset.bits := by
    rw [Cursor.off_next, afterAnswer_offset ho, hp, hoff]
  have hroundedNext (hlate : s.phase = .length ∨ s.afterLength = true) :
      (c.next tx' rx').rounded = (afterAnswer i s tx' rx').rounded := by
    rw [Cursor.rounded_next_eq h ho htx hp hrounded hlate, State.rounded, State.rounded, imgLen_afterAnswer]
  have hplace := afterAnswer_place (tx := tx') (rx := rx') ho hi (.inl hl)
  have hsucc : successor (decide ((c.next tx' rx').off < (c.next tx' rx').rounded)) c.phase c.idx rx' =
      ((afterAnswer i s tx' rx').phase, (afterAnswer i s tx' rx').idx) := by
    rw [hplace, hp, hn]
    refine successor_congr (fun hloop => ?_) _ _
    rw [hoffNext, hroundedNext (hloop.imp_right fun hpay => (afterLength_iff s).mpr (.inl hpay))]
  obtain ⟨hphase, hidx⟩ := Cursor.place_next hsucc
  refine ⟨?_, hphase, hoffNext, fun hlate => hroundedNext ?_, hidx⟩
  · obtain ⟨x, -, hdec⟩ := h.sentWord_decodes ho htx
    refine ⟨⟨i, x⟩, rfl, fun rest => ?_⟩
    simp only [decodeTraffic, hp, hn, hdec]
    rfl
  · rw [afterLength_iff] at hlate ⊢
    exact lengthOrLater_of_successor hplace.symm hlate

end Sys2Proof.Machine

/-! ### What of a response matters (R77, R104, R146) -/

namespace Sys2Proof.Machine

/-- The state without its trace: what two runs are compared on. -/
def State.untraced (s : State) : State := { s with trace := [] }

@[simp] theorem State.pollLimit_untraced (s : State) : s.untraced.pollLimit = s.pollLimit := rfl

/-- The loop test and a miss do not look at the trace. -/
theorem State.untraced_gotoPayloadOrFinalize (s : State) (off len : Word) :
    (s.untraced.gotoPayloadOrFinalize off len).untraced = (s.gotoPayloadOrFinalize off len).untraced := by
  unfold State.gotoPayloadOrFinalize
  split <;> rfl

theorem State.untraced_pollMissed (s : State) : s.untraced.pollMissed.untraced = s.pollMissed.untraced := by
  cases hl : s.pollLimit with
  | none => rw [State.pollMissed_noLimit hl, State.pollMissed_noLimit (s.pollLimit_untraced.trans hl)]; rfl
  | some k =>
    rw [State.pollMissed_limit hl, State.pollMissed_limit (s.pollLimit_untraced.trans hl)]
    by_cases hk : s.pollCount.bits + 1 = k
    · rw [if_pos hk, if_pos (by exact hk)]; rfl
    · rw [if_neg hk, if_neg (by exact hk)]; rfl

/-- Nor does anything else that an operation makes of an answer. -/
theorem untraced_afterExchange (i : Instr) (s : State) (rx : Word) :
    (afterExchange i s.untraced rx).untraced = (afterExchange i s rx).untraced := by
  cases i with
  | pollDiscover | pollCrc =>
    simp only [afterExchange]
    split
    · rfl
    · exact s.untraced_pollMissed
  | hdrUnit =>
    by_cases h : s.idx.toNat = 94
    · simp only [afterExchange, State.afterUnit_last h, State.afterUnit_last (s := s.untraced) h]; rfl
    · simp only [afterExchange, State.afterUnit_more h, State.afterUnit_more (s := s.untraced) h]; rfl
  | length => exact State.untraced_gotoPayloadOrFinalize (s.latchFinalizer _) _ _
  | payloadWord => exact State.untraced_gotoPayloadOrFinalize (s.setOffset _) _ _
  | _ => rfl

theorem untraced_afterExchange_congr {s t : State} (h : s.untraced = t.untraced) (i : Instr) (rx : Word) :
    (afterExchange i s rx).untraced = (afterExchange i t rx).untraced := by
  rw [← untraced_afterExchange, h, untraced_afterExchange]

/-- An operation's word does not depend on the answers to come. -/
theorem sentWord_peer (s : State) (i : Instr) (peer : List LinkResult) :
    sentWord { s with peer := peer } i = sentWord s i := by
  cases i <;> rfl

/-- An operation that runs with an answer waiting sends its word and gets that answer. -/
theorem exec_answered {s t : State} {i : Instr} {r : Word} {rest : List LinkResult} (hp : (pointOf i).isSome = true)
    (hi : i ≠ .finFold) (h : exec i { s with peer := .ok r :: rest } = .next t) :
    ∃ tx, sentWord s i = some tx ∧ t = afterAnswer i { s with peer := .ok r :: rest } tx r := by
  obtain ⟨tx, htx, ⟨_, ha, rfl⟩ | ⟨hf, -⟩⟩ := exec_op_cases (exec_next_performed hp h) hi h
  · cases ha
    exact ⟨tx, (sentWord_peer s i _).symm.trans htx, rfl⟩
  · cases hf

/-- Where an operation makes the same of two responses, they lead to the same state apart from the trace. -/
theorem untraced_eq_of_responses {s t₁ t₂ : State} {i : Instr} {r₁ r₂ : Word} {rest : List LinkResult}
    (h₁ : exec i { s with peer := .ok r₁ :: rest } = .next t₁) (h₂ : exec i { s with peer := .ok r₂ :: rest } = .next t₂)
    (hp : (pointOf i).isSome = true) (hi : i ≠ .finFold) (hr : ∀ u, afterExchange i u r₁ = afterExchange i u r₂) :
    t₁.untraced = t₂.untraced := by
  obtain ⟨tx, htx, rfl⟩ := exec_answered hp hi h₁
  obtain ⟨tx', htx', rfl⟩ := exec_answered hp hi h₂
  obtain rfl : tx = tx' := Option.some.inj (htx.symm.trans htx')
  unfold afterAnswer
  rw [hr]
  refine untraced_afterExchange_congr ?_ i r₂
  unfold beforeExchange
  split <;> rfl

/-- The carried byte is bits 23..16 (R77). -/
theorem carriedByte_eq (r : Word) : carriedByte r = r.extractLsb' 16 8 := by
  apply BitVec.eq_of_toNat_eq
  rw [carriedByte_toNat, BitVec.extractLsb'_toNat, Nat.shiftRight_eq_div_pow]

/-- Settles O39: an operation that discards its response makes the same of any two. -/
theorem discardedResponsesChangeOnlyTheTrace : Obligations.DiscardedResponsesChangeOnlyTheTrace := by
  unfold Obligations.DiscardedResponsesChangeOnlyTheTrace
  intro s i r₁ r₂ rest t₁ t₂ hfmt h₁ h₂
  cases i with
  | recogA | recogB | hdrUnit | hdrEnd | infoAgain | keyA | handshake | payloadWord | crcAck | crcSend =>
    exact untraced_eq_of_responses h₁ h₂ rfl nofun fun _ => rfl
  | _ => cases hfmt

/-- Settles O40: `KEY_B` and `LENGTH` take the carried byte of their response and nothing else of it. -/
theorem onlyTheCarriedByteOfAResponseMatters : Obligations.OnlyTheCarriedByteOfAResponseMatters := by
  unfold Obligations.OnlyTheCarriedByteOfAResponseMatters
  intro s i r₁ r₂ rest t₁ t₂ hfmt hbits h₁ h₂
  have hbyte : carriedByte r₁ = carriedByte r₂ := by
    rw [carriedByte_eq, carriedByte_eq, hbits]
  cases i with
  | keyB | length => exact untraced_eq_of_responses h₁ h₂ rfl nofun fun _ => by simp only [afterExchange, hbyte]
  | _ => cases hfmt

end Sys2Proof.Machine

/-! ### Rows and commands out of place (R105, R106) -/

namespace Sys2Proof.Machine

/-- A primitive is refused where no operation uses it. -/
theorem performedWhen_refused {here : Instr → Bool} {s : State} (h : ∀ i, opAt s.phase s.idx = some i → here i = false)
    (body : Result) : performedWhen here s body = .refused .notPerformedHere := by
  cases ho : opAt s.phase s.idx with
  | none => simp [performedWhen, ho]
  | some i => simp [performedWhen, ho, h i ho]

/-- Settles O9: the guards of the operations and of the primitives. -/
theorem rowsOutOfTheirControlStateAreRefused : Obligations.RowsOutOfTheirControlStateAreRefused := by
  unfold Obligations.RowsOutOfTheirControlStateAreRefused
  intro s
  refine ⟨fun i hp ho => ?_, fun tx hnone => performedWhen_refused (fun i ho => ?_) _,
    fun w e hdiscover hcrc => performedWhen_refused (fun i ho => ?_) _⟩
  · cases i with
    | pollDiscover | recogA | recogB | hdrUnit | hdrEnd | infoAgain | keyA | keyB | handshake | length | payloadWord | finFold
    | pollCrc | crcAck | crcSend => exact performedAt_refused ho _
    | _ => cases hp
  · rcases hnone with hnone | hfold
    · simp [hnone] at ho
    · obtain rfl : Instr.finFold = i := by simpa [hfold] using ho
      rfl
  · rw [ho] at hdiscover hcrc
    cases i with
    | pollDiscover => exact absurd rfl hdiscover
    | pollCrc => exact absurd rfl hcrc
    | _ => rfl

/-- Settles O4: the guards of START and ABORT. -/
theorem commandsOutOfPlaceAreIgnored : Obligations.CommandsOutOfPlaceAreIgnored := by
  unfold Obligations.CommandsOutOfPlaceAreIgnored
  intro s
  refine ⟨fun hb len => ?_, fun hb => ?_, fun hb len hlen => ⟨s.enterFailed .invalidImage .idle 0, ?_, rfl, rfl, rfl, rfl⟩⟩
  · simp [exec, execStart, hb]
  · simp [exec, execAbort, hb]
  · have hover : params.maxLen < len := hlen
    simp [exec, execStart, hb, hover]

/-- Settles O7: what decodes is of the control state's operation, and a quiet boundary runs that. -/
theorem stepRunsTheDecodedOperation : Obligations.StepRunsTheDecodedOperation := by
  unfold Obligations.StepRunsTheDecodedOperation
  intro s bytes rest f hquiet hdec
  obtain ⟨-, ho, -⟩ := encodeOfDecodeIsTheBytes _ _ _ _ _ hdec
  exact step_of_opAt (by rw [hquiet]; rfl) (by rw [hquiet]; rfl) ho

/-- Settles O8: the boundary finds no control state of the table. -/
theorem illegalControlIsRefused : Obligations.IllegalControlIsRefused := by
  unfold Obligations.IllegalControlIsRefused
  intro s hillegal hreset
  have hsel : s.select = .illegal := by simp [State.select, hreset, hillegal]
  simp [step, hsel]

end Sys2Proof.Machine

/-! ### Function rows and written-out words -/

namespace Sys2Proof.Machine

/-- Settles O24: a function row's meaning is its value. -/
theorem functionRowsOnlyGiveTheirValue : Obligations.FunctionRowsOnlyGiveTheirValue := fun _ =>
  ⟨fun _ _ => rfl, fun _ => rfl, fun _ => rfl, fun _ => rfl, fun _ _ => rfl, fun _ _ _ => rfl⟩

/-- Settles O58: each word has, or lacks, the fixed bits of the control state's format. -/
theorem writtenOutWordsDecode : Obligations.WrittenOutWordsDecode :=
  ⟨rfl, rfl, rfl, rfl, rfl, rfl, rfl, rfl, rfl, rfl, rfl⟩

end Sys2Proof.Machine

/-! ## Proofs of the statements of `40_word_exchanger.md` -/

/-! ### The primitives EXCHANGE and WAIT_UNTIL (R110, R112, R113) -/

namespace Sys2Proof.Machine

/-- A failed exchange hands its word over and ends the session; nothing of the operation's rest happens (R224). -/
theorem State.exchange_fail_eq_failedWith {s : State} (ha : s.answer = .fail) (hp : s.phase ≠ .failed) (tx : Word)
    (rest : State → Word → State) :
    s.exchange tx rest = failedWith { s with sent := s.sent ++ [tx], peer := s.peer.tail } .transportFailure :=
  (State.exchange_fail ha tx rest).trans (raise_eq_failedWith (s := s.handOver tx) hp _)

theorem State.pollOnce_matched {s : State} {e : Word} (ha : s.answer = .ok e) (w : Word) (matched : State → State) :
    s.pollOnce w e matched = matched (exchanged s w e) :=
  (State.exchange_ok ha w _).trans (if_pos rfl)

theorem State.pollOnce_missed {s : State} {e rx : Word} (ha : s.answer = .ok rx) (hr : rx ≠ e) (w : Word)
    (matched : State → State) : s.pollOnce w e matched = (exchanged s w rx).pollMissed :=
  (State.exchange_ok ha w _).trans (if_neg hr)

/-- `s` after an attempt that sent `tx` and was answered `rx`, counted as a miss (R113). -/
def countedMiss (s : State) (tx rx : Word) : State :=
  { exchanged s tx rx with pollCount := ⟨s.pollCount.bits + 1, true⟩ }

/-- R113 for every attempt, whatever it compares and does on a match: under `POLL_LIMIT = k` the miss is counted, and the
miss that makes the count `k` ends the session. -/
theorem pollAttempt_limited_miss {s : State} {i : Instr} {k : Nat} {e rx : Word} (ho : opAt s.phase s.idx = some i)
    (ha : s.answer = .ok rx) (hl : s.pollLimit = some k) (hw : s.pollCount.written = true) (hr : rx ≠ e) (w : Word)
    (matched : State → State) :
    withPollCount s e (.next (s.pollOnce w e matched)) = .next
      (if s.pollCount.bits + 1 = k then failedWith (countedMiss s w rx) .peerUnresponsive else countedMiss s w rx) := by
  have hmiss : (exchanged s w rx).pollMissed =
      if s.pollCount.bits + 1 = k then (countedMiss s w rx).raise .peerUnresponsive else countedMiss s w rx :=
    State.pollMissed_limit hl
  have hp : (countedMiss s w rx).phase ≠ .failed := busy_ne_failed (opAt_busy ho)
  rw [withPollCount_eq (.inr (.inl hw)), State.pollOnce_missed ha hr, hmiss, raise_eq_failedWith hp]

/-- The two polling control states perform the two operations that poll (R112). -/
theorem polls_of_place {s : State} (h : (s.phase = .discovery ∧ s.idx = 0) ∨ (s.phase = .finalize ∧ s.idx = 1)) :
    ∃ i, opAt s.phase s.idx = some i ∧ polls i = true := by
  rcases h with ⟨hp, hn⟩ | ⟨hp, hn⟩
  · exact ⟨.pollDiscover, by simp [hp, hn, opAt], rfl⟩
  · exact ⟨.pollCrc, by simp [hp, hn, opAt], rfl⟩

/-- Where an operation polls, the WAIT_UNTIL row is one attempt (log 21). -/
theorem exec_waitUntil_eq {s : State} {i : Instr} (ho : opAt s.phase s.idx = some i) (hi : polls i = true) (w e : Word) :
    exec (.waitUntil w e) s = withPollCount s e (.next (s.pollOnce w e fun s' => s'.yield e)) :=
  performedWhen_eq ho hi _

/-- Settles O14: the two polls and the WAIT_UNTIL row are the same attempt with other words and matches. -/
theorem pollLimitBoundsTheMisses : Obligations.PollLimitBoundsTheMisses := by
  unfold Obligations.PollLimitBoundsTheMisses
  intro s rx k ha hl hw
  refine ⟨fun hp hn hr => ?discover, fun hp hn hr => ?crc, fun hplace w e hr => ?row⟩
  case discover =>
    have ho : opAt s.phase s.idx = some .pollDiscover := by simp [hp, hn, opAt]
    exact (performedAt_eq ho _).trans (pollAttempt_limited_miss ho ha hl hw hr _ _)
  case crc =>
    have ho : opAt s.phase s.idx = some .pollCrc := by simp [hp, hn, opAt]
    exact (performedAt_eq ho _).trans (pollAttempt_limited_miss ho ha hl hw hr _ _)
  case row =>
    obtain ⟨i, ho, hi⟩ := polls_of_place hplace
    exact (exec_waitUntil_eq ho hi w e).trans (pollAttempt_limited_miss ho ha hl hw hr w _)

/-- Settles O22: an operation with a link format exchanges, and the primitive yields the answer or fails with it. -/
theorem exchangePrimitiveReturnsTheResponse : Obligations.ExchangePrimitiveReturnsTheResponse := by
  unfold Obligations.ExchangePrimitiveReturnsTheResponse
  intro s i tx ho hi
  have hexec : exec (.exchange tx) s = .next (s.exchange tx State.yield) := performedWhen_eq ho (opAt_format ho hi) _
  rw [hexec]
  refine ⟨fun rx ha => ?answered, fun ha => ?failed⟩
  case answered => rw [State.exchange_ok ha]; rfl
  case failed => rw [State.exchange_fail_eq_failedWith ha (busy_ne_failed (opAt_busy ho))]

/-- Settles O23: match, miss without a limit and failure of one attempt; none of the three reads `poll_count`. -/
theorem waitUntilPassComparesAllBits : Obligations.WaitUntilPassComparesAllBits := by
  unfold Obligations.WaitUntilPassComparesAllBits
  intro s w e hplace
  obtain ⟨i, ho, hi⟩ := polls_of_place hplace
  rw [exec_waitUntil_eq ho hi]
  refine ⟨fun ha => ?matched, fun rx ha hl hr => ?missed, fun ha => ?failed⟩
  case matched =>
    have hread : missesOn e s.answer = false := by simp [ha, missesOn]
    rw [withPollCount_eq (.inr (.inr hread)), State.pollOnce_matched ha]
    rfl
  case missed =>
    have hlimit : (exchanged s w rx).pollLimit = none := hl
    rw [withPollCount_eq (.inl hl), State.pollOnce_missed ha hr, State.pollMissed_noLimit hlimit]
  case failed =>
    have hread : missesOn e s.answer = false := by simp [ha, missesOn]
    rw [withPollCount_eq (.inr (.inr hread)), State.pollOnce,
      State.exchange_fail_eq_failedWith ha (busy_ne_failed (opAt_busy ho))]

end Sys2Proof.Machine

/-! ## Proofs of the statements of `41_handshake_fsm.md` -/

/-! ### The two settings of the length division (R141) -/

namespace Sys2Proof.Machine

/-- Setting the top two bits of a word in which they are clear adds their value. -/
theorem or_topTwoBits_toNat {n : Word} (h : n.toNat < 2 ^ 30) : (n ||| 0xC0000000).toNat = 2 ^ 30 * 3 + n.toNat := by
  rw [Nat.two_pow_add_eq_or_of_lt h, Nat.or_comm, BitVec.toNat_or]
  rfl

/-- From the bias on the wrapped difference has a clear sign bit, so the signed division is the unsigned one. -/
theorem lengthWordWith_signed_of_ge {l : Word} (hmax : l ≤ 0x40000) (hge : 0x190 ≤ l) :
    lengthWordWith .signed l = lengthWordWith .unsigned l := by
  have hmsb : (l - 0x190).msb = false := by
    rw [BitVec.msb_eq_false_iff_two_mul_lt]
    bv_omega
  change (l - 0x190).sdiv 4 = (l - 0x190) / 4
  rw [BitVec.sdiv_eq, hmsb]
  rfl

/-- Below the bias the difference is negative, and the signed division divides its magnitude. -/
theorem lengthWordWith_signed_of_lt {l : Word} (hlt : l < 0x190) : lengthWordWith .signed l = -((0x190 - l) / 4) := by
  have hmsb : (l - 0x190).msb = true := by
    rw [BitVec.msb_eq_true_iff_two_mul_ge]
    bv_omega
  have hneg : -(l - 0x190) = 0x190 - l := by bv_omega
  change (l - 0x190).sdiv 4 = _
  rw [BitVec.sdiv_eq, hmsb, ← hneg]
  rfl

/-- Settles O53: below the bias the signed word is `2 ^ 32 - k` and the unsigned one `2 ^ 30 - k`, for the same `k`. -/
theorem lengthDivisionSettingsDifferOnlyAtTheTop : Obligations.LengthDivisionSettingsDifferOnlyAtTheTop := by
  unfold Obligations.LengthDivisionSettingsDifferOnlyAtTheTop
  intro l hmax h16
  refine ⟨lengthWordWith_signed_of_ge hmax, fun hlt => BitVec.eq_of_toNat_eq ?_⟩
  have hunsigned : (lengthWord l).toNat = 2 ^ 30 - (0x190 - l.toNat) / 4 := (lengthWordWrapsBelowTheBias l hmax h16).2.1 hlt
  have hsigned : (lengthWordWith .signed l).toNat = 2 ^ 32 - (0x190 - l.toNat) / 4 := by
    have hmagnitude : ((0x190 - l) / 4).toNat = (0x190 - l.toNat) / 4 := by
      rw [BitVec.toNat_udiv, BitVec.toNat_sub_of_le (BitVec.le_of_lt hlt)]
      rfl
    rw [lengthWordWith_signed_of_lt hlt]
    bv_omega
  change _ = (lengthWord l ||| 0xC0000000).toNat
  rw [or_topTwoBits_toNat (by bv_omega), hsigned, hunsigned]
  bv_omega

end Sys2Proof.Machine

/-! ### START (R125) -/

namespace Sys2Proof.Machine

/-- The block is not busy in three phases (R32). -/
theorem busy_eq_false_iff {s : State} : s.busy = false ↔ s.phase = .idle ∨ s.phase = .done ∨ s.phase = .failed := by
  unfold State.busy
  cases s.phase <;> simp [Phase.resting]

/-- A length up to `MAX_LEN` is accepted (R125). -/
theorem exec_start_of_legal {s : State} {len : Word} (hb : s.busy = false) (h : len ≤ params.maxLen) :
    exec (.start len) s = .next (s.beginSession len) := by
  simp [exec, execStart, hb, BitVec.not_lt.mpr h]

/-- A larger one fails the session before it begins (R126, R230). -/
theorem exec_start_of_oversize {s : State} {len : Word} (hb : s.busy = false) (h : params.maxLen < len) :
    exec (.start len) s = .next (s.enterFailed .invalidImage .idle 0) := by
  simp [exec, execStart, hb, h]

/-- `poll_count` is cleared where it exists (R42). -/
theorem State.clearPollCount_eq (s : State) :
    s.clearPollCount = { s with pollCount := if s.pollLimit = none then s.pollCount else ⟨0, true⟩ } := by
  unfold State.clearPollCount
  split
  next hl => rw [if_pos hl]
  next hl => rw [if_neg (by simp [hl])]; rfl

/-- Settles O3: the three branches of START, by its two guards. -/
theorem startCommandBeginsOrFailsSession : Obligations.StartCommandBeginsOrFailsSession := by
  unfold Obligations.StartCommandBeginsOrFailsSession
  intro s len
  simp only [← busy_eq_false_iff]
  refine ⟨fun hb hlen => ?begun, fun hb hlen => ?oversize, fun hb => ?ignored⟩
  case begun =>
    have hp : s.phase ≠ .discovery := fun hp => by simp [State.busy, hp, Phase.resting] at hb
    rw [exec_start_of_legal hb hlen, State.beginSession, goto_eq_entered (by simpa using hp), State.clearPollCount_eq]
    rfl
  case oversize =>
    rw [exec_start_of_oversize hb hlen]
    simp only [eq_comm (a := s.phase)]
    rfl
  case ignored => exact (commandsOutOfPlaceAreIgnored s).1 (by simpa using hb) len

end Sys2Proof.Machine

/-! ### Operations that discard their response (R130 to R137, R139, R211) -/

namespace Sys2Proof.Machine

/-- An answered exchange leads to the state the statements write out, and the rest of the operation goes on from there
(R110). -/
theorem State.exchange_eq_exchanged {s : State} {rx : Word} (ha : s.answer = .ok rx) (tx : Word)
    (rest : State → Word → State) : s.exchange tx rest = rest (exchanged s tx rx) rx :=
  State.exchange_ok ha tx rest

/-- An operation that reads no register and exchanges, in its control state. -/
theorem performedAt_exchange {s : State} {i : Instr} {rx : Word} (ho : opAt s.phase s.idx = some i) (ha : s.answer = .ok rx)
    (tx : Word) (rest : State → Word → State) :
    performedAt i s (.next (s.exchange tx rest)) = .next (rest (exchanged s tx rx) rx) := by
  rw [performedAt_eq ho, State.exchange_eq_exchanged ha]

/-- A change of phase after an exchange. -/
theorem exchanged_goto {s : State} {p : Phase} (h : s.phase ≠ p) (tx rx : Word) :
    (exchanged s tx rx).goto p 0 = entered (exchanged s tx rx) p := goto_eq_entered (s := exchanged s tx rx) h

/-- Settles O11: each operation is one exchange; what follows is an index or a change of phase. -/
theorem fixedWordOperationsComplete : Obligations.FixedWordOperationsComplete := by
  unfold Obligations.FixedWordOperationsComplete
  intro s rx ha
  refine ⟨fun hp hn => ?recogA, fun hp hn => ?recogB, fun hp hn => ?hdrEnd, fun hp hn => ?infoAgain, fun hp hn => ?keyA,
    fun hp hn => ?crcAck⟩
  case recogA => exact performedAt_exchange (opAt_iff_performs.mpr (.recogA hp hn)) ha _ _
  case hdrEnd => exact performedAt_exchange (opAt_iff_performs.mpr (.hdrEnd hp hn)) ha _ _
  case keyA => exact performedAt_exchange (opAt_iff_performs.mpr (.keyA hp hn)) ha _ _
  case crcAck => exact performedAt_exchange (opAt_iff_performs.mpr (.crcAck hp hn)) ha _ _
  case recogB =>
    rw [← exchanged_goto (by simp [hp])]
    exact performedAt_exchange (opAt_iff_performs.mpr (.recogB hp hn)) ha _ _
  case infoAgain =>
    rw [← exchanged_goto (by simp [hp])]
    exact performedAt_exchange (opAt_iff_performs.mpr (.infoAgain hp hn)) ha _ _

/-- Settles O16: `hh` is read, its low byte sent, and the register left alone. -/
theorem handshakeSendsTheLowByteOfHh : Obligations.HandshakeSendsTheLowByteOfHh := by
  unfold Obligations.HandshakeSendsTheLowByteOfHh
  intro s rx ha hp hn hw
  rw [exec, execHandshake, performedAt_eq (opAt_iff_performs.mpr (.handshake hp hn)), Reg.get_written hw,
    State.exchangeIgnoring, State.exchange_eq_exchanged ha, exchanged_goto (by simp [hp]), handshakeWord_eq]

end Sys2Proof.Machine

/-! ### The discovery poll (R128) -/

namespace Sys2Proof.Machine

/-- An attempt that matches goes on, whatever the limit and the count (R112). -/
theorem pollAttempt_matched {s : State} {e : Word} (ha : s.answer = .ok e) (w : Word) (matched : State → State) :
    withPollCount s e (.next (s.pollOnce w e matched)) = .next (matched (exchanged s w e)) := by
  have hread : missesOn e s.answer = false := by simp [ha, missesOn]
  rw [withPollCount_eq (.inr (.inr hread)), State.pollOnce_matched ha]

/-- Without a limit a miss leaves nothing but its exchange (R113). -/
theorem pollAttempt_unlimited_miss {s : State} {e rx : Word} (ha : s.answer = .ok rx) (hl : s.pollLimit = none)
    (hr : rx ≠ e) (w : Word) (matched : State → State) :
    withPollCount s e (.next (s.pollOnce w e matched)) = .next (exchanged s w rx) := by
  have hlimit : (exchanged s w rx).pollLimit = none := hl
  rw [withPollCount_eq (.inl hl), State.pollOnce_missed ha hr, State.pollMissed_noLimit hlimit]

/-- Settles O12: a match and a miss of the discovery poll. -/
theorem pollDiscoverComparesAllBits : Obligations.PollDiscoverComparesAllBits := by
  unfold Obligations.PollDiscoverComparesAllBits
  intro s rx ha hp hn
  have ho := opAt_iff_performs.mpr (.pollDiscover hp hn)
  rw [exec, execPollDiscover, performedAt_eq ho]
  refine ⟨?matched, fun hl hr => pollAttempt_unlimited_miss ha hl hr _ _⟩
  case matched =>
    rintro rfl
    rw [← exchanged_goto (by simp [hp])]
    exact pollAttempt_matched ha _ _

end Sys2Proof.Machine

/-! ### The operations that use the carried byte (R138, R143) -/

namespace Sys2Proof.Machine

/-- The carried byte as a Word is the response shifted and masked, as the statements write it (R77). -/
theorem zext32_carriedByte (r : Word) : zext32 (carriedByte r) = (r >>> 16) &&& 0xFF := by
  apply BitVec.eq_of_toNat_eq
  have := carriedByte_toNat r
  rw [and_keyMask_toNat]
  bv_omega

/-- Settles O15: the seed and `hh` are sums with the carried byte. -/
theorem keyBLatchesTheKeyByte : Obligations.KeyBLatchesTheKeyByte := by
  unfold Obligations.KeyBLatchesTheKeyByte
  intro s r ha hp hn
  rw [← zext32_carriedByte, ← goto_eq_entered (by simp [exchanged, hp])]
  exact performedAt_exchange (opAt_iff_performs.mpr (.keyB hp hn)) ha _ _

/-- Division by 4 is a shift by 2 (R141). -/
theorem lengthWord_eq_ushiftRight (l : Word) : lengthWord l = (l - 0x190) >>> 2 := by
  apply BitVec.eq_of_toNat_eq
  rw [lengthWord_toNat, BitVec.toNat_ushiftRight, Nat.shiftRight_eq_div_pow]

/-- The loop test after an operation outside both of its phases (R148). -/
theorem gotoPayloadOrFinalize_eq_entered {s : State} (hpayload : s.phase ≠ .payload) (hfinalize : s.phase ≠ .finalize)
    (off len : Word) :
    s.gotoPayloadOrFinalize off len = entered s (if off < roundedLength len then .payload else .finalize) := by
  unfold State.gotoPayloadOrFinalize
  split
  · exact goto_eq_entered hpayload
  · exact goto_eq_entered hfinalize

/-- Settles O17: three reads, the exchange of the length word, and the loop test. -/
theorem lengthSendsSizeAndLatchesFinalizer : Obligations.LengthSendsSizeAndLatchesFinalizer := by
  unfold Obligations.LengthSendsSizeAndLatchesFinalizer
  intro s r2 ha hp hn hlen hhh hoff
  rw [exec, execLength, performedAt_eq (opAt_iff_performs.mpr (.length hp hn)), Reg.get_written hlen,
    State.getAfter_eq (.inl hhh), State.getAfter_eq (.inl hoff), State.exchange_eq_exchanged ha,
    gotoPayloadOrFinalize_eq_entered (by simp [exchanged, State.latchFinalizer, hp])
      (by simp [exchanged, State.latchFinalizer, hp]),
    lengthWord_eq_ushiftRight, finalizerSeed, zext32_carriedByte, roundedLength_eq]
  rfl

end Sys2Proof.Machine

/-! ## Proofs of the statements of `42_crc_checksum_accumulator.md` -/

namespace Sys2Proof.Machine

/-! ### The range of the fold (R163) -/

/-- An accumulator that fits 16 bits still does after any number of iterations. -/
theorem crcIterate_fst_le (n : Nat) {c : Word} (d : Word) (h : c ≤ 0xFFFF) : (crcIterate n (c, d)).1 ≤ 0xFFFF := by
  have hlt := crcIterate_fst_lt n d (k := 0) (Nat.lt_succ_of_le h)
  rw [Nat.zero_sub] at hlt
  exact BitVec.le_def.mpr (Nat.le_of_lt_succ hlt)

/-- Settles O44: an iteration shifts the bits above the low 16 out, and feeds back into the low 16 only. -/
theorem checksumFoldFitsSixteenBits : Obligations.ChecksumFoldFitsSixteenBits := by
  unfold Obligations.ChecksumFoldFitsSixteenBits
  exact ⟨crcFold_le, fun n _ w => crcIterate_fst_le n w⟩

/-! ### The laws of the fold (R164) -/

/-- The tested bit is linear over XOR. -/
theorem crcTest_xor (a b u v : Word) : crcTest (a ^^^ b) (u ^^^ v) = (crcTest a u ^^ crcTest b v) := by
  have hcomm : (a ^^^ b) ^^^ (u ^^^ v) = (a ^^^ u) ^^^ (b ^^^ v) := by ac_rfl
  rw [crcTest, hcomm, BitVec.getLsbD_xor]
  rfl

/-- An XOR of two tests feeds back the XOR of what each test feeds back. -/
theorem feedback_xor (p q : Bool) (k : Word) :
    (if (p ^^ q) then k else 0) = (if p then k else 0) ^^^ (if q then k else 0) := by
  cases p <;> cases q <;> simp

/-- One iteration is linear over XOR. -/
theorem crcStep_xor (p q : Word × Word) :
    crcStep (p.1 ^^^ q.1, p.2 ^^^ q.2) = ((crcStep p).1 ^^^ (crcStep q).1, (crcStep p).2 ^^^ (crcStep q).2) := by
  obtain ⟨a, u⟩ := p
  obtain ⟨b, v⟩ := q
  refine Prod.ext ?_ (BitVec.ushiftRight_xor_distrib u v 1)
  simp only [crcStep_fst, crcTest_xor, feedback_xor, BitVec.ushiftRight_xor_distrib]
  ac_rfl

/-- So is any number of iterations. -/
theorem crcIterate_xor (n : Nat) (p q : Word × Word) :
    crcIterate n (p.1 ^^^ q.1, p.2 ^^^ q.2) =
      ((crcIterate n p).1 ^^^ (crcIterate n q).1, (crcIterate n p).2 ^^^ (crcIterate n q).2) := by
  induction n generalizing p q with
  | zero => rfl
  | succ n ih => simp only [crcIterate, crcStep_xor, ih]

/-- Law 4 of R164. -/
theorem crcFold_xor (a b u v : Word) : crcFold (a ^^^ b) (u ^^^ v) = crcFold a u ^^^ crcFold b v :=
  congrArg Prod.fst (crcIterate_xor params.crcBits (a, u) (b, v))

/-- Equal operands never feed back, so both are only shifted. -/
theorem crcStep_self (x : Word) : crcStep (x, x) = (x >>> 1, x >>> 1) := by
  simp [crcStep, crcTest]

theorem crcIterate_self (n : Nat) (x : Word) : crcIterate n (x, x) = (x >>> n, x >>> n) := by
  induction n generalizing x with
  | zero => simp [crcIterate]
  | succ n ih => rw [crcIterate, crcStep_self, ih, ← BitVec.shiftRight_add, Nat.add_comm]

/-- Law 3 of R164: equal operands cancel, all 32 bits being shifted out. -/
theorem crcFold_self (x : Word) : crcFold x x = 0 := by
  rw [crcFold, crcIterate_self]
  exact BitVec.ushiftRight_eq_zero (le_refl 32)

/-- Law 2 of R164: the fold sees its operands through their XOR. Folding the word into itself gives 0 (law 3), so that may be
XOR-ed off (law 4). -/
theorem crcFold_eq_xor_zero (acc w : Word) : crcFold acc w = crcFold (acc ^^^ w) 0 :=
  calc crcFold acc w
    _ = crcFold acc w ^^^ crcFold w w := by rw [crcFold_self]; exact BitVec.xor_zero.symm
    _ = crcFold (acc ^^^ w) (w ^^^ w) := (crcFold_xor acc w w w).symm
    _ = crcFold (acc ^^^ w) 0 := by rw [BitVec.xor_self]; rfl

/-- Settles O45: the zero law is the cancellation law at 0. -/
theorem checksumFoldLaws : Obligations.ChecksumFoldLaws := by
  unfold Obligations.ChecksumFoldLaws
  exact ⟨fun _ _ h => h ▸ rfl, crcFold_eq_xor_zero, crcFold_self, crcFold_xor, crcFold_self 0⟩

/-! ### The fold as an iterated step (R162) -/

/-- The tested bit as R162 writes it. -/
theorem crcTest_iff (c d : Word) : crcTest c d = true ↔ (c ^^^ d) &&& 1 = 1 := by
  have hand : (c ^^^ d) &&& 1 = (BitVec.ofBool (crcTest c d)).setWidth 32 := BitVec.and_one_eq_setWidth_ofBool_getLsbD
  rw [hand]
  cases crcTest c d <;> decide

/-- `CRC_STEP(c, d)` as R162 writes it. -/
theorem crcStep_eq (cd : Word × Word) :
    crcStep cd = ((cd.1 >>> 1) ^^^ (if (cd.1 ^^^ cd.2) &&& 1 = 1 then 0xC37B else 0), cd.2 >>> 1) := by
  obtain ⟨c, d⟩ := cd
  refine Prod.ext ?_ (crcStep_snd c d)
  simp only [crcStep_fst, crcTest_iff]

/-- The checksum loop iterates the step. -/
theorem crcIterate_eq_iterate (n : Nat) (cd : Word × Word) : crcIterate n cd = crcStep^[n] cd := by
  induction n generalizing cd with
  | zero => rfl
  | succ n ih => exact ih (crcStep cd)

/-- Settles O46: the loop iterates `crcStep`, which is R162's step. -/
theorem checksumFoldIsThirtyTwoSteps : Obligations.ChecksumFoldIsThirtyTwoSteps := by
  unfold Obligations.ChecksumFoldIsThirtyTwoSteps
  intro acc w
  rw [crcFold, crcIterate_eq_iterate, funext crcStep_eq]
  rfl

end Sys2Proof.Machine

/-! ## Proofs of the statements of `43_lcg_keystream_generator.md` -/

namespace Sys2Proof.Machine

/-! ### The keystream step (R179) -/

/-- The multiplier is odd, so it has an inverse modulo 2^32, written out here. -/
theorem isUnit_lcgMul : IsUnit params.lcgMul := IsUnit.of_mul_eq_one (0xA69D47BB : Word) (by decide)

/-- Settles O47: the step multiplies by a unit of the ring of Words, then translates by the increment. -/
theorem keystreamStepIsABijection : Obligations.KeystreamStepIsABijection := by
  unfold Obligations.KeystreamStepIsABijection
  have hmul : Function.Bijective (params.lcgMul * ·) := IsUnit.isUnit_iff_mulLeft_bijective.mp isUnit_lcgMul
  have hinc : Function.Bijective (· + params.lcgInc) := AddGroup.addRight_bijective params.lcgInc
  exact hinc.comp hmul

/-! ### The keystream seed (R176) -/

/-- The seed's addend is `-0x2F` modulo 2^32 (R176), so this holds of every key byte. -/
theorem lcgSeed_eq_sub (kb : Byte) : lcgSeed kb = kb.setWidth 32 - 0x2F := by
  rw [BitVec.sub_eq_add_neg, BitVec.add_comm]
  rfl

/-- Below `0x2F` the sum does not wrap. -/
theorem lcgSeed_ge {kb : Byte} (h : kb < 0x2F) : 0xFFFFFFD1 ≤ lcgSeed kb := by
  have hkb : kb.toNat < 0x2F := h
  rw [BitVec.le_def, lcgSeed_toNat, Nat.mod_eq_of_lt (by omega)]
  exact Nat.le_add_right _ _

/-- Settles O48: both sums are `LCG_SEED` modulo 2^32; that the one below `0x2F` does not wrap gives its range. -/
theorem keystreamSeedHasTwoRanges : Obligations.KeystreamSeedHasTwoRanges := by
  unfold Obligations.KeystreamSeedHasTwoRanges
  exact fun kb => ⟨fun _ => lcgSeed_eq_sub kb, fun h => ⟨rfl, lcgSeed_ge h⟩⟩

end Sys2Proof.Machine

/-! ## Proofs of the statements of `44_word_xor_cipher.md` -/

namespace Sys2Proof.Machine

/-! ### The negation (R185) -/

/-- The machine negates by complement and increment; this is the additive inverse of the ring of Words. -/
theorem negate_eq_neg (v : Word) : negate v = -v := (BitVec.neg_eq_not_add v).symm

/-- R185's two forms of the negation agree: complement and increment is subtraction from 2^32. -/
theorem negate_toNat (v : Word) : (negate v).toNat = (2 ^ 32 - v.toNat) % 2 ^ 32 := by
  rw [negate_eq_neg, BitVec.toNat_neg]

@[simp] theorem negate_negate (v : Word) : negate (negate v) = v := by
  rw [negate_eq_neg, negate_eq_neg, BitVec.neg_neg]

/-- Settles O50: negation is the ring's, which gives its value and that it undoes itself; four fixed words remain. -/
theorem negateIsTwosComplement : Obligations.NegateIsTwosComplement := by
  unfold Obligations.NegateIsTwosComplement
  exact ⟨negate_toNat, by decide, by decide, by decide, negate_negate, by decide⟩

/-! ### The involution (R189) -/

/-- Settles O49: both passes use the mask of the same `off` and `k`, and a mask XORed in twice cancels. -/
theorem cipherIsItsOwnInverse : Obligations.CipherIsItsOwnInverse := by
  unfold Obligations.CipherIsItsOwnInverse
  intro w off k
  calc cipherXor (cipherXor w off k) off k
    _ = w ^^^ (cipherMask off k ^^^ cipherMask off k) := BitVec.xor_assoc w _ _
    _ = w := by rw [BitVec.xor_self, BitVec.xor_zero]

end Sys2Proof.Machine

/-! ## Proofs of the statements of `45_payload_and_finalization.md` -/

/-! ### The operations of the streaming phases (R200, R204, R208 to R212) -/

namespace Sys2Proof.Machine

/-- `s` after an answered header unit, the control state apart (R200). -/
def unitSent (s : State) (rx : Word) : State :=
  { exchanged s (img16 s.image s.imgLen.bits s.payloadOffset.bits) rx with
    payloadOffset := ⟨s.payloadOffset.bits + 2, true⟩ }

/-- `HDR_UNIT` reads two registers, exchanges, and moves on: to the next unit, or out of the phase after the 95th (R200). -/
theorem exec_hdrUnit_of_ok {s : State} {rx : Word} (ha : s.answer = .ok rx) (hp : s.phase = .header) (hn : s.idx.toNat ≤ 94)
    (hlen : s.imgLen.written = true) (hoff : s.payloadOffset.written = true) :
    exec .hdrUnit s = .next
      (if s.idx = 94 then entered (unitSent s rx) .headerDone else { unitSent s rx with idx := s.idx + 1 }) := by
  have ho : opAt s.phase s.idx = some .hdrUnit := hp ▸ opAt_header hn
  rw [exec, execHdrUnit, performedAt_eq ho, Reg.get_written hlen, Reg.get_written hoff, State.exchangeIgnoring,
    State.exchange_eq_exchanged ha]
  split
  next hlast =>
    rw [State.afterUnit_last (s := exchanged s _ rx) (congrArg BitVec.toNat hlast), goto_eq_entered (by simp [exchanged, hp])]
    rfl
  next hmore =>
    rw [State.afterUnit_more (s := exchanged s _ rx) fun h => hmore (BitVec.eq_of_toNat_eq h)]
    rfl

/-- Settles O18: the operation's next state, by its test for the 95th unit. -/
theorem headerUnitIsSentUnmodified : Obligations.HeaderUnitIsSentUnmodified := by
  unfold Obligations.HeaderUnitIsSentUnmodified
  exact fun _ _ => exec_hdrUnit_of_ok

/-- `s` after an answered payload word, the control state apart: the plaintext folded, the keystream stepped, and the word
sent under the new keystream and the old offset (R204). -/
def wordSent (s : State) (rx : Word) : State :=
  let w := img32 s.image s.imgLen.bits s.payloadOffset.bits
  { exchanged s (cipherXor w s.payloadOffset.bits (lcgNext s.keystreamState.bits)) rx with
    checksum := ⟨crcFold s.checksum.bits w, true⟩
    keystreamState := ⟨lcgNext s.keystreamState.bits, true⟩
    payloadOffset := ⟨s.payloadOffset.bits + 4, true⟩ }

/-- The loop test within PAYLOAD: it stays there or enters FINALIZE (R148). -/
theorem gotoPayloadOrFinalize_of_payload {s : State} (hp : s.phase = .payload) (hn : s.idx = 0) (off len : Word) :
    s.gotoPayloadOrFinalize off len = if off < roundedLength len then s else entered s .finalize := by
  unfold State.gotoPayloadOrFinalize
  split
  · cases s; simp_all [State.goto]
  · exact goto_eq_entered (by simp [hp])

/-- `PAYLOAD_WORD` reads four registers, exchanges, and comes to the loop test (R204). -/
theorem exec_payloadWord_of_ok {s : State} {rx : Word} (ha : s.answer = .ok rx) (hp : s.phase = .payload) (hn : s.idx = 0)
    (hlen : s.imgLen.written = true) (hoff : s.payloadOffset.written = true) (hsum : s.checksum.written = true)
    (hkey : s.keystreamState.written = true) :
    exec .payloadWord s = .next
      (if s.payloadOffset.bits + 4 < s.rounded then wordSent s rx else entered (wordSent s rx) .finalize) := by
  rw [exec, execPayloadWord, performedAt_eq (opAt_iff_performs.mpr (.payloadWord hp hn)), Reg.get_written hlen,
    Reg.get_written hoff, Reg.get_written hsum, Reg.get_written hkey]
  refine congrArg _ ((State.exchange_eq_exchanged ((State.answer_encodeStep s _ _).trans ha) _ _).trans ?_)
  exact gotoPayloadOrFinalize_of_payload (s := wordSent s rx) hp hn _ _

/-- The cipher as R187 and R188 write it. -/
theorem cipherXor_eq (w off k : Word) : cipherXor w off k = w ^^^ (~~~(0x02000000 + off) + 1) ^^^ k ^^^ 0x43202F2F := by
  simp only [cipherXor, cipherMask, negate, params, BitVec.xor_assoc]

/-- Settles O19: the operation's word is the cipher written out. -/
theorem payloadWordFoldsAdvancesEncrypts : Obligations.PayloadWordFoldsAdvancesEncrypts := by
  unfold Obligations.PayloadWordFoldsAdvancesEncrypts
  intro s rx ha hp hn hlen hoff hsum hkey
  rw [exec_payloadWord_of_ok ha hp hn hlen hoff hsum hkey, wordSent, cipherXor_eq]
  rfl

/-- Settles O20: two reads, the fold, and the count where it exists. -/
theorem finalFoldTouchesOnlyTheChecksum : Obligations.FinalFoldTouchesOnlyTheChecksum := by
  unfold Obligations.FinalFoldTouchesOnlyTheChecksum
  intro s hp hn hsum hfin
  rw [exec, execFinFold, performedAt_eq (opAt_iff_performs.mpr (.finFold hp hn)), Reg.get_written hsum,
    Reg.get_written hfin, State.clearPollCount_eq]
  rfl

/-- Settles O13: a match and a miss of the checksum poll. -/
theorem pollCrcComparesAllBits : Obligations.PollCrcComparesAllBits := by
  unfold Obligations.PollCrcComparesAllBits
  intro s rx ha hp hn
  rw [exec, execPollCrc, performedAt_eq (opAt_iff_performs.mpr (.pollCrc hp hn))]
  refine ⟨?matched, fun hl hr => pollAttempt_unlimited_miss ha hl hr _ _⟩
  case matched =>
    rintro rfl
    exact pollAttempt_matched ha _ _

/-- Settles O21: the response is discarded, and so are the session registers. -/
theorem crcSendEndsInDoneWhateverComesBack : Obligations.CrcSendEndsInDoneWhateverComesBack := by
  unfold Obligations.CrcSendEndsInDoneWhateverComesBack
  intro s rx ha hp hn hsum
  rw [exec, execCrcSend, performedAt_eq (opAt_iff_performs.mpr (.crcSend hp hn)), Reg.get_written hsum,
    State.exchangeIgnoring, State.exchange_eq_exchanged ha, goto_eq_entered (by simp [exchanged, hp])]
  rfl

end Sys2Proof.Machine

/-! ### Runs of answered exchanges (R133, R203) -/

namespace Sys2Proof.Machine

/-- A property that holds before the first step, and that each of `N` steps carries on, holds where the run ends. -/
theorem stepsTo_induction {P : Nat → State → Prop} {N : Nat} {s : State} (start : P 0 s)
    (next : ∀ n t, n < N → P n t → ∃ u, step t = .next u ∧ P (n + 1) u) : ∃ t, stepsTo N s = some t ∧ P N t := by
  induction N with
  | zero => exact ⟨s, rfl, start⟩
  | succ N ih =>
    obtain ⟨t, hrun, ht⟩ := ih fun n t hn => next n t (Nat.lt_succ_of_lt hn)
    obtain ⟨u, hstep, hu⟩ := next N t (Nat.lt_succ_self N) ht
    exact ⟨u, (stepsTo_add hrun 1).trans (stepsTo_succ hstep), hu⟩

/-- What `n` exchanges of a streaming phase leave of `s`, and what they use up of the peer's script. -/
structure Streamed (s t : State) (n : Nat) : Prop where
  host : t.host = []
  image : t.image = s.image
  imgLen : t.imgLen = s.imgLen
  peer : t.peer = s.peer.drop n

/-- While the script's responses last, the next exchange is answered. -/
theorem Streamed.answered {s t : State} {n : Nat} (h : Streamed s t n) {rxs : List Word} {rest : List LinkResult}
    (hpeer : s.peer = rxs.map .ok ++ rest) (hn : n < rxs.length) : ∃ rx, t.answer = .ok rx := by
  have hdrop : t.peer = .ok rxs[n] :: (rxs.map LinkResult.ok ++ rest).drop (n + 1) := by
    rw [h.peer, hpeer, List.drop_eq_getElem_cons (by simp; omega)]
    simp [hn]
  exact ⟨rxs[n], by simp [State.answer, hdrop]⟩

/-- As many exchanges as the script has responses leave what stands after them. -/
theorem Streamed.peer_rest {s t : State} {n : Nat} (h : Streamed s t n) {rxs : List Word} {rest : List LinkResult}
    (hpeer : s.peer = rxs.map .ok ++ rest) (hn : rxs.length = n) : t.peer = rest := by
  simp [h.peer, hpeer, ← hn]

/-- The next exchange uses up the next response, and no more. -/
theorem Streamed.peer_tail {s t : State} {n : Nat} (h : Streamed s t n) : t.peer.tail = s.peer.drop (n + 1) := by
  rw [h.peer, List.tail_drop]

/-! ### The header phase (R133, R202) -/

/-- What `n` header units from offset 0 have made of `s`, the control state apart. -/
structure UnitsSent (s t : State) (n : Nat) : Prop extends Streamed s t n where
  offset : t.payloadOffset = ⟨BitVec.ofNat 32 (2 * n), true⟩
  sent : t.sent = s.sent ++ (List.range n).map fun i => img16 s.image s.imgLen.bits (BitVec.ofNat 32 (2 * i))
  checksum : t.checksum = s.checksum
  keystream : t.keystreamState = s.keystreamState

/-- One more unit goes out at the offset the ones before it have reached. -/
theorem UnitsSent.succ {s t : State} {n : Nat} (h : UnitsSent s t n) (rx : Word) : UnitsSent s (unitSent t rx) (n + 1) where
  host := h.host
  image := h.image
  imgLen := h.imgLen
  peer := h.peer_tail
  offset := by simp [unitSent, h.offset, Nat.mul_succ, BitVec.ofNat_add]
  sent := by simp [unitSent, exchanged, h.sent, h.image, h.imgLen, h.offset, List.range_succ]
  checksum := h.checksum
  keystream := h.keystream

/-- `t` after `n` of the 95 units: still in HEADER, or out of it after the last (R30, R133). -/
structure HeaderRun (s : State) (n : Nat) (t : State) : Prop extends UnitsSent s t n where
  place : (t.phase, t.idx) = if n < 95 then (.header, BitVec.ofNat 7 n) else (.headerDone, 0)

/-- An answered step of the header phase sends one more unit. -/
theorem HeaderRun.step_answered {s t : State} {n : Nat} {rx : Word} (h : HeaderRun s n t) (hn : n < 95)
    (hlen : s.imgLen.written = true) (ha : t.answer = .ok rx) : ∃ u, step t = .next u ∧ HeaderRun s (n + 1) u := by
  obtain ⟨hp, hi⟩ : t.phase = .header ∧ t.idx = BitVec.ofNat 7 n := by simpa [hn] using h.place
  have hidx : t.idx.toNat = n := by rw [hi, BitVec.toNat_ofNat]; omega
  have hsent := h.toUnitsSent.succ rx
  have hexec := exec_hdrUnit_of_ok ha hp (by omega) (by rw [h.imgLen, hlen]) (by rw [h.offset])
  refine ⟨_, (step_of_host_nil h.host (hp ▸ opAt_header (by omega))).trans hexec, ?_⟩
  split
  next hlast =>
    have hend : n = 94 := by rw [← hidx, hlast]; rfl
    exact { hsent with place := by simp [hend, entered] }
  next hmore =>
    have hend : n ≠ 94 := fun hend => hmore (hi.trans (by rw [hend]; rfl))
    have hlt : n + 1 < 95 := by omega
    exact { hsent with place := by simp [hlt, unitSent, exchanged, hp, hi, BitVec.ofNat_add] }

/-- Settles O41: by induction over the 95 units. -/
theorem headerPhaseSendsNinetyFiveUnits : Obligations.HeaderPhaseSendsNinetyFiveUnits := by
  unfold Obligations.HeaderPhaseSendsNinetyFiveUnits
  intro s rxs rest hp hn hhost hlen hoff hcount hpeer
  have start : HeaderRun s 0 s := {
    host := hhost, image := rfl, imgLen := rfl, peer := rfl
    offset := hoff, sent := by simp, checksum := rfl, keystream := rfl, place := by rw [hp, hn]; rfl }
  obtain ⟨t, hrun, ht⟩ := stepsTo_induction (N := 95) start fun n t hlt ht => by
    obtain ⟨rx, ha⟩ := ht.answered hpeer (by omega)
    exact ht.step_answered hlt hlen ha
  obtain ⟨tp, tn⟩ := Prod.mk.inj ht.place
  exact ⟨t, hrun, tp, tn, ht.offset, ht.sent, ht.checksum, ht.keystream, ht.peer_rest hpeer hcount⟩

/-! ### The payload phase (R203 to R205, R178) -/

/-- A register that holds a value is its bits, written. -/
theorem Reg.eq_of_written {α : Type} {r : Reg α} (h : r.written = true) : r = ⟨r.bits, true⟩ := by
  cases r
  cases h
  rfl

/-- The last of `n + 1` keystream steps (R178). -/
theorem lcgTimes_succ (n : Nat) (x : Word) : lcgTimes (n + 1) x = lcgNext (lcgTimes n x) := by
  induction n generalizing x with
  | zero => rfl
  | succ n ih => exact ih (lcgNext x)

/-- What `n` payload words from offset `0xBE` have made of `s`, the control state apart. -/
structure WordsSent (s t : State) (n : Nat) : Prop extends Streamed s t n where
  offset : t.payloadOffset = ⟨0xBE + 4 * BitVec.ofNat 32 n, true⟩
  keystream : t.keystreamState = ⟨lcgTimes n s.keystreamState.bits, true⟩
  checksum : t.checksum =
    ⟨(List.range n).foldl (fun c j => crcFold c (plainWord s.image s.imgLen.bits j)) s.checksum.bits, true⟩
  sent : t.sent = s.sent ++ (List.range n).map fun j =>
    cipherXor (plainWord s.image s.imgLen.bits j) (0xBE + 4 * BitVec.ofNat 32 j) (lcgTimes (j + 1) s.keystreamState.bits)

/-- One more word goes out under the offset and the keystream the ones before it have reached. -/
theorem WordsSent.succ {s t : State} {n : Nat} (h : WordsSent s t n) (rx : Word) : WordsSent s (wordSent t rx) (n + 1) where
  host := h.host
  image := h.image
  imgLen := h.imgLen
  peer := h.peer_tail
  offset := by
    simp only [wordSent, h.offset, BitVec.ofNat_add, BitVec.mul_add, BitVec.add_assoc]
    rfl
  keystream := by simp [wordSent, h.keystream, lcgTimes_succ]
  checksum := by simp [wordSent, h.checksum, h.image, h.imgLen, h.offset, List.range_succ, plainWord]
  sent := by
    simp [wordSent, exchanged, h.sent, h.image, h.imgLen, h.offset, h.keystream, List.range_succ, plainWord, lcgTimes_succ]

/-- `t` after `n` of the payload words: still in PAYLOAD, or in FINALIZE after the last (R203). -/
structure PayloadRun (s : State) (n : Nat) (t : State) : Prop extends WordsSent s t n where
  place : (t.phase, t.idx) = if n < payloadWords s.rounded then (.payload, 0) else (.finalize, 0)

/-- The last payload word starts two bytes short of `L` (R205). -/
theorem SessionInv.rounded_toNat {s : State} (h : SessionInv s) (hp : s.phase = .payload) :
    s.rounded.toNat = 188 + 4 * payloadWords s.rounded ∧ 0 < payloadWords s.rounded ∧ s.rounded.toNat ≤ 0x40000 := by
  have hb : s.busy = true := by simp [State.busy, hp, Phase.resting]
  obtain ⟨hlow, -, hbelow⟩ := h.payload_offset hp
  obtain ⟨hmod, hmax⟩ : s.rounded.toNat % 16 = 0 ∧ s.rounded.toNat ≤ 0x40000 := roundedLength_bounds (h.regs hb).lengthRange
  have hgt : 190 < s.rounded.toNat := lt_of_le_of_lt (BitVec.le_def.mp hlow) (BitVec.lt_def.mp hbelow)
  simp only [payloadWords]
  omega

/-- The loop test after word `n` asks whether a word is left (R148, R205). -/
theorem PayloadRun.loopTest {s t : State} {n : Nat} (h : PayloadRun s n t) (hinv : SessionInv s) (hphase : s.phase = .payload)
    (hn : n < payloadWords s.rounded) :
    t.payloadOffset.bits + 4 < t.rounded ↔ n + 1 < payloadWords s.rounded := by
  obtain ⟨hL, -, hmax⟩ := hinv.rounded_toNat hphase
  have hrounded : t.rounded = s.rounded := congrArg (fun r : Reg Word => roundedLength r.bits) h.imgLen
  have hoff : (t.payloadOffset.bits + 4).toNat = 194 + 4 * n := by
    rw [h.offset]
    bv_omega
  rw [hrounded, BitVec.lt_def, hoff]
  omega

/-- An answered step of the payload phase sends one more word. -/
theorem PayloadRun.step_answered {s t : State} {n : Nat} {rx : Word} (h : PayloadRun s n t) (hinv : SessionInv s)
    (hphase : s.phase = .payload) (hn : n < payloadWords s.rounded) (ha : t.answer = .ok rx) :
    ∃ u, step t = .next u ∧ PayloadRun s (n + 1) u := by
  obtain ⟨hp, hi⟩ : t.phase = .payload ∧ t.idx = 0 := by simpa [hn] using h.place
  have hlen := (hinv.regs (by simp [State.busy, hphase, Phase.resting])).lengthHeld
  have hsent := h.toWordsSent.succ rx
  have hexec := exec_payloadWord_of_ok ha hp hi (by rw [h.imgLen, hlen]) (by rw [h.offset]) (by rw [h.checksum])
    (by rw [h.keystream])
  refine ⟨_, (step_of_host_nil h.host (opAt_iff_performs.mpr (.payloadWord hp hi))).trans hexec, ?_⟩
  have htest := h.loopTest hinv hphase hn
  split
  next hlt => exact { hsent with place := by rw [if_pos (htest.mp hlt)]; exact Prod.ext hp hi }
  next hge => exact { hsent with place := by rw [if_neg (mt htest.mpr hge)]; rfl }

/-- Settles O42: by induction over the words. -/
theorem payloadPhaseSendsEveryWord : Obligations.PayloadPhaseSendsEveryWord := by
  unfold Obligations.PayloadPhaseSendsEveryWord
  intro s rxs rest h hp hoff hhost hcount hpeer
  have hregs := h.regs (by simp [State.busy, hp, Phase.resting])
  obtain ⟨hkey, -⟩ := h.keys (by simp [State.afterKey, hp])
  have hi : s.idx = 0 := by simpa [controlLegal, hp, Phase.resting, opAt] using h.control
  obtain ⟨hL, hpos, hmax⟩ := h.rounded_toNat hp
  have start : PayloadRun s 0 s := {
    host := hhost, image := rfl, imgLen := rfl, peer := rfl
    offset := by rw [Reg.eq_of_written hregs.offsetHeld, hoff]; rfl
    keystream := Reg.eq_of_written hkey, checksum := Reg.eq_of_written hregs.checksumHeld, sent := by simp
    place := by rw [if_pos hpos, hp, hi] }
  obtain ⟨t, hrun, ht⟩ := stepsTo_induction (N := payloadWords s.rounded) start fun n t hlt ht => by
    obtain ⟨rx, ha⟩ := ht.answered hpeer (hcount ▸ hlt)
    exact ht.step_answered h hp hlt ha
  obtain ⟨tp, tn⟩ : t.phase = .finalize ∧ t.idx = 0 := by simpa using ht.place
  have hend : 0xBE + 4 * BitVec.ofNat 32 (payloadWords s.rounded) = s.rounded + 2 := by bv_omega
  rw [hcount]
  exact ⟨t, hrun, tp, tn, hend ▸ ht.offset, ht.keystream, ht.checksum, ht.sent, ht.peer_rest hpeer hcount⟩

end Sys2Proof.Machine

/-! ## Proofs of the statements of `60_exceptions.md` -/

/-! ### The boundary (R232) and ABORT (R228) -/

namespace Sys2Proof.Machine

/-- A step runs what the boundary selects, past that boundary. -/
theorem step_of_select {s : State} {i : Instr} (h : s.select = .run i) : step s = exec i s.passBoundary := by
  simp [step, h]

/-- Settles O6: each clause is one branch of the boundary's selection. -/
theorem boundaryPriorityIsResetAbortOperation : Obligations.BoundaryPriorityIsResetAbortOperation := by
  unfold Obligations.BoundaryPriorityIsResetAbortOperation
  intro s
  refine ⟨?reset, ?abort, fun i => step_of_opAt, ?start, ?nothing⟩
  case reset =>
    intro hr
    exact step_of_select (by simp [State.select, hr])
  case abort =>
    intro hr hl hb ha
    exact step_of_select (by simp [State.select, hr, hl, hb, ha])
  case start =>
    intro len hr hl hb hs
    exact step_of_select (by simp [State.select, hr, hl, hb, hs])
  case nothing =>
    intro hr hl hb hs
    have hsel : s.select = .nothing := by simp [State.select, hr, hl, hb, hs]
    simp only [step, hsel, State.passBoundary]

/-- ABORT of a running session is a failure (R228). -/
theorem exec_abort_of_busy {s : State} (hb : s.busy = true) : exec .abort s = .next (s.raise .aborted) := by
  simp [exec, execAbort, hb]

/-- Settles O5: a busy block is not in FAILED, so the failure entry changes the phase. -/
theorem abortEntersFailedWhileBusy : Obligations.AbortEntersFailedWhileBusy := by
  unfold Obligations.AbortEntersFailedWhileBusy
  intro s hb
  rw [exec_abort_of_busy hb, raise_eq_failedWith (busy_ne_failed hb)]

end Sys2Proof.Machine

/-! ### A failed exchange (R224, R230, R231) -/

namespace Sys2Proof.Machine

/-- Settles O25: in the invariant the operation answers next. Its answer being `Fail`, it has handed its word over and entered
FAILED, which leaves the history and the count. -/
theorem failedExchangeIsPrecise : Obligations.FailedExchangeIsPrecise := by
  unfold Obligations.FailedExchangeIsPrecise
  intro s i h ho hi ha
  obtain ⟨t, he⟩ := h.operation_answers ho
  obtain ⟨tx, htx, ⟨rx, hok, -⟩ | ⟨-, rfl⟩⟩ := exec_op_cases ho hi he
  · simp [ha] at hok
  · have hp : ((beforeExchange i s).handOver tx).phase ≠ .failed := by simpa using busy_ne_failed (opAt_busy ho)
    refine ⟨_, tx, he, htx, ?nextState, by simp, by simp⟩
    case nextState =>
      rw [raise_eq_failedWith hp, State.handOver, sent_beforeExchange, peer_beforeExchange]

end Sys2Proof.Machine

/-! ### The ways out of FAILED (R233) -/

namespace Sys2Proof.Machine

/-- START sets the checksum to its initial value and the offset to 0 (R125). -/
theorem State.checksum_offset_beginSession (s : State) (len : Word) :
    (s.beginSession len).checksum = ⟨0xC387, true⟩ ∧ (s.beginSession len).payloadOffset = ⟨0, true⟩ := by
  rw [State.beginSession, State.clearPollCount_eq]
  exact ⟨rfl, rfl⟩

/-- Everything a step can do where no session runs: RESET, a START of a legal length or of an oversize one, or no more than the
boundary (R31, R125, R232). -/
theorem step_next_of_not_busy {s t : State} (hb : s.busy = false) (h : step s = .next t) :
    (s.slot.reset = true ∧ t = s.passBoundary.resetBlock) ∨
    (∃ len, s.slot.start = some len ∧ len ≤ params.maxLen ∧ t = s.passBoundary.beginSession len) ∨
    (∃ len, s.slot.start = some len ∧ params.maxLen < len ∧ t = s.passBoundary.enterFailed .invalidImage .idle 0) ∨
    t = s.passBoundary := by
  rcases step_next h with ⟨i, hsel, h⟩ | ⟨-, rfl⟩
  case inr => exact .inr (.inr (.inr rfl))
  rcases s.select_cases with ⟨hr, e⟩ | ⟨-, -, e⟩ | ⟨-, hbusy, -⟩ | ⟨_, -, hbusy, -⟩ | ⟨len, -, -, hs, e⟩ | ⟨-, -, -, e⟩
  · obtain rfl : Instr.reset = i := by simpa [e] using hsel
    cases h
    exact .inl ⟨hr, rfl⟩
  · simp [e] at hsel
  · simp [hb] at hbusy
  · simp [hb] at hbusy
  · obtain rfl : Instr.start len = i := by simpa [e] using hsel
    have hb' : s.passBoundary.busy = false := hb
    by_cases hlen : len ≤ params.maxLen
    · rw [exec_start_of_legal hb' hlen] at h
      cases h
      exact .inr (.inl ⟨len, hs, hlen, rfl⟩)
    · have hover := BitVec.not_le.mp hlen
      rw [exec_start_of_oversize hb' hover] at h
      cases h
      exact .inr (.inr (.inl ⟨len, hs, hover, rfl⟩))
  · simp [e] at hsel

/-- Settles O26: of what a step can do where no session runs, an oversize START and a mere boundary stay in FAILED. -/
theorem failedIsLeftOnlyByStartOrReset : Obligations.FailedIsLeftOnlyByStartOrReset := by
  unfold Obligations.FailedIsLeftOnlyByStartOrReset
  intro s t hp h hleft
  rcases step_next_of_not_busy (busy_eq_false_iff.mpr (.inr (.inr hp))) h with
    ⟨hr, rfl⟩ | ⟨len, hs, hlen, rfl⟩ | ⟨len, -, -, rfl⟩ | rfl
  · exact .inl ⟨hr, rfl⟩
  · exact .inr ⟨len, hs, hlen, rfl, State.checksum_offset_beginSession _ _⟩
  · exact absurd rfl hleft
  · exact absurd hp hleft

end Sys2Proof.Machine

/-! ## Proofs of the statements of `70_reset_and_hazards.md` -/

/-! ### RESET (R250) -/

namespace Sys2Proof.Machine

/-- Settles O2: RESET is enabled in every state, and whether it leaves a phase record is one question asked from two sides. -/
theorem resetCommandUnwritesEveryRegister : Obligations.ResetCommandUnwritesEveryRegister := by
  unfold Obligations.ResetCommandUnwritesEveryRegister
  intro s
  simp only [eq_comm (a := s.phase)]
  rfl

end Sys2Proof.Machine

/-! ### The first word of a session and its end in DONE (R251, R269) -/

namespace Sys2Proof.Machine

/-- Everything a step can do while a session runs: RESET, ABORT, or the operation of the control state (R228, R232). -/
theorem step_next_of_busy {s t : State} (hb : s.busy = true) (h : step s = .next t) :
    t = s.passBoundary.resetBlock ∨ t = s.passBoundary.raise .aborted ∨
    (∃ i, opAt s.phase s.idx = some i ∧ exec i s.passBoundary = .next t) := by
  have hb' : s.passBoundary.busy = true := hb
  rcases s.select_cases with ⟨-, e⟩ | ⟨-, -, e⟩ | ⟨-, -, -, e⟩ | ⟨i, -, -, -, ho, e⟩ | ⟨_, -, hrest, -⟩ | ⟨-, hrest, -⟩
  · rw [step_of_select e] at h
    cases h
    exact .inl rfl
  · simp [step, e] at h
  · rw [step_of_select e, exec_abort_of_busy hb'] at h
    cases h
    exact .inr (.inl rfl)
  · rw [step_of_select e] at h
    exact .inr (.inr ⟨i, ho, h⟩)
  · simp [hb] at hrest
  · simp [hb] at hrest

/-- In DISCOVERY a command sends nothing and ends the session; the one operation is the poll, which has sent its word, answered
or not (R128). -/
theorem step_next_of_discovery {s t : State} (hp : s.phase = .discovery) (h : step s = .next t) :
    (t.sent = s.sent ∧ t.phase ≠ .recognize) ∨ t.sent = s.sent ++ [0x00006202] := by
  have hb : s.busy = true := by simp [State.busy, hp, Phase.resting]
  rcases step_next_of_busy hb h with rfl | rfl | ⟨i, ho, he⟩
  · exact .inl ⟨rfl, nofun⟩
  · exact .inl ⟨rfl, nofun⟩
  · obtain rfl : .pollDiscover = i := by
      rw [hp] at ho
      simp only [opAt, Option.ite_none_right_eq_some, Option.some.injEq] at ho
      exact ho.2
    obtain ⟨tx, htx, ⟨rx, -, rfl⟩ | ⟨-, rfl⟩⟩ := exec_op_cases (s := s.passBoundary) ho nofun he <;> cases htx
    · exact .inr (sent_afterAnswer _ _ _ _)
    · exact .inr rfl

@[simp] theorem State.sent_beginSession (s : State) (len : Word) : (s.beginSession len).sent = s.sent := by
  simp [State.beginSession]

/-- Settles O32: without a session only commands run, which send nothing; in DISCOVERY the poll sends its word. -/
theorem nothingIsSentBeforeASession : Obligations.NothingIsSentBeforeASession := by
  unfold Obligations.NothingIsSentBeforeASession
  intro s t h
  refine ⟨fun hb => ?noSession, fun hp => ?discovery, fun hp hnext => ?recognize⟩
  case noSession =>
    rcases step_next_of_not_busy hb h with ⟨-, rfl⟩ | ⟨len, -, -, rfl⟩ | ⟨len, -, -, rfl⟩ | rfl <;> simp
  case discovery => exact (step_next_of_discovery hp h).imp_left And.left
  case recognize => exact (step_next_of_discovery hp h).resolve_left fun hstay => hstay.2 hnext

/-- Of all an operation can make of an answer, only `CRC_SEND`'s part leads to DONE (R212). -/
theorem eq_crcSend_of_phase_afterExchange {s : State} {i : Instr} {rx : Word} (ho : opAt s.phase s.idx = some i)
    (h : (afterExchange i s rx).phase = .done) : i = .crcSend := by
  cases opAt_iff_performs.mp ho with
  | crcSend => rfl
  | pollDiscover hp | pollCrc hp =>
    simp only [afterExchange] at h
    split at h
    · simp [hp] at h
    · rcases s.pollMissed_cases with e | e | e <;> simp [e, hp] at h
  | hdrUnit hp =>
    by_cases hlast : s.idx.toNat = 94 <;>
      simp [afterExchange, State.afterUnit_last, State.afterUnit_more, hlast, hp] at h
  | length | payloadWord =>
    simp only [afterExchange, State.afterWord, State.phase_gotoPayloadOrFinalize] at h
    split at h <;> cases h
  | recogA hp | recogB hp | hdrEnd hp | infoAgain hp | keyA hp | keyB hp | handshake hp | finFold hp | crcAck hp =>
    simp [afterExchange, hp] at h

/-- An operation that leads to DONE is `CRC_SEND`, answered; a failed exchange leads to FAILED, and `FIN_FOLD` stays in
FINALIZE. -/
theorem operation_into_done {s t : State} {i : Instr} (ho : opAt s.phase s.idx = some i) (h : exec i s = .next t)
    (ht : t.phase = .done) :
    i = .crcSend ∧ ∃ rx, s.answer = .ok rx ∧ t = afterAnswer .crcSend s s.checksum.bits rx := by
  by_cases hi : i = .finFold
  · subst hi
    cases opAt_iff_performs.mp ho with
    | finFold hp => simp [exec_finFold_next h, hp] at ht
  · obtain ⟨tx, htx, ⟨rx, ha, rfl⟩ | ⟨-, rfl⟩⟩ := exec_op_cases ho hi h
    · obtain rfl : i = .crcSend := eq_crcSend_of_phase_afterExchange (by simpa using ho) ht
      cases htx
      exact ⟨rfl, rx, ha, rfl⟩
    · cases ht

/-- Settles O27: no command leads to DONE, with a session or without, so the step ran an operation. -/
theorem doneIsReachedOnlyByAnsweredCrcSend : Obligations.DoneIsReachedOnlyByAnsweredCrcSend := by
  unfold Obligations.DoneIsReachedOnlyByAnsweredCrcSend
  intro s t hs h ht
  cases hb : s.busy with
  | false =>
    rcases step_next_of_not_busy hb h with ⟨-, rfl⟩ | ⟨len, -, -, rfl⟩ | ⟨len, -, -, rfl⟩ | rfl
    · cases ht
    · cases ht
    · cases ht
    · exact absurd ht hs
  | true =>
    rcases step_next_of_busy hb h with rfl | rfl | ⟨i, ho, he⟩
    · cases ht
    · cases ht
    · obtain ⟨rfl, rx, ha, rfl⟩ := operation_into_done (s := s.passBoundary) ho he ht
      cases opAt_iff_performs.mp ho with
      | crcSend hp hn => exact ⟨hp, hn, ⟨rx, ha⟩, sent_afterAnswer _ _ _ _, rfl, rfl⟩

end Sys2Proof.Machine
